-- ==== Sys2Proof/Word.lean ====
section
/-! DEFINITION. The word types of the PAO block (spec/00_scope.md R8, R9): bit 0 is the least significant bit. -/

namespace Sys2Proof

/-- One byte: a cell of the raw register file, a data operand, a READ result (R21). -/
abbrev Byte := BitVec 8

/-- A local register address, `0x000 .. 0x1FF` (20_memory.md R50). -/
abbrev Addr := BitVec 9

/-- A host command word (30_encoding.md R70). -/
abbrev Hcw := BitVec 32

/-- A phase accumulator: 6 index bits and 16 fraction bits (10_state.md R24, R25). -/
abbrev Phase := BitVec 22

/-- A signed 16-bit output sample (10_state.md R40). -/
abbrev Sample := BitVec 16

end Sys2Proof
end

