-- ==== Sys2Proof/Machine/AddressMap.lean ====
section
/-! DEFINITION. The local address map (spec/20_memory.md R51; 10_state.md R21, R22, R34). -/

namespace Sys2Proof.Machine

/-- `CWAVE[i]` is at `0x000 + i`. -/
def cwaveAddr (i : BitVec 6) : Addr := 0#3 ++ i
/-- `MWAVE[i]` is at `0x040 + i`. -/
def mwaveAddr (i : BitVec 6) : Addr := 1#3 ++ i

abbrev aCVOL : Addr := 0x080#9
abbrev aCFLO : Addr := 0x081#9
abbrev aCFHI : Addr := 0x082#9
abbrev aMVOL : Addr := 0x083#9
abbrev aMCTL : Addr := 0x084#9
abbrev aMFLO : Addr := 0x085#9
abbrev aMFHI : Addr := 0x086#9
abbrev aMASTER : Addr := 0x087#9
abbrev aP0CTL : Addr := 0x100#9
abbrev aP0LO : Addr := 0x101#9
abbrev aP0HI : Addr := 0x102#9
abbrev aP1CTL : Addr := 0x104#9
abbrev aP1LO : Addr := 0x105#9
abbrev aP1HI : Addr := 0x106#9
abbrev aTLO : Addr := 0x109#9
abbrev aTHI : Addr := 0x10A#9
abbrev aNCTL : Addr := 0x10C#9
abbrev aNLO : Addr := 0x10D#9
abbrev aNHI : Addr := 0x10E#9

/-- The 11 implemented PNC addresses (R21). -/
def pncAddrs : List Addr :=
  [aP0CTL, aP0LO, aP0HI, aP1CTL, aP1LO, aP1HI, aTLO, aTHI, aNCTL, aNLO, aNHI]

/-- Whether a local address has a cell in `raw`: the 136 WFM addresses `0x000 .. 0x087` and the 11 PNC
addresses (R21). Every other address is reserved (R51). -/
def implemented (a : Addr) : Bool := decide (a.toNat ≤ 0x087) || decide (a ∈ pncAddrs)

end Sys2Proof.Machine
end

