-- ==== Sys2Proof/Syntax.lean ====
section
/-! DEFINITION. The host commands (spec/30_encoding.md R76): one constructor per row of spec/opcode_table.json,
in the table's order, and the reasons for which a word is illegal (R75). -/

namespace Sys2Proof

/-- A decoded host command. Operands are unsigned and used as they stand (R77). -/
inductive Instr where
  /-- `WR.CWAVE`: write carrier table entry `i`. -/
  | wrCwave (i : BitVec 6) (data : Byte)
  /-- `WR.MWAVE`: write modulator table entry `i`. -/
  | wrMwave (i : BitVec 6) (data : Byte)
  | wrCvol (data : Byte)
  | wrCflo (data : Byte)
  | wrCfhi (data : Byte)
  | wrMvol (data : Byte)
  | wrMctl (data : Byte)
  | wrMflo (data : Byte)
  | wrMfhi (data : Byte)
  | wrMaster (data : Byte)
  | wrP0ctl (data : Byte)
  | wrP0lo (data : Byte)
  | wrP0hi (data : Byte)
  | wrP1ctl (data : Byte)
  | wrP1lo (data : Byte)
  | wrP1hi (data : Byte)
  | wrTlo (data : Byte)
  | wrThi (data : Byte)
  | wrNctl (data : Byte)
  | wrNlo (data : Byte)
  | wrNhi (data : Byte)
  /-- `WR.RSVD`: write to a reserved address. -/
  | wrRsvd (addr : Addr) (data : Byte)
  /-- `RD`: read a register byte. -/
  | rd (addr : Addr)
  /-- `ADV`: advance by `count` master-clock cycles. -/
  | adv (count : BitVec 30)
  /-- `RST`: reset. -/
  | rst
deriving DecidableEq, Repr

/-- Why a word is illegal: which must-be-zero field is not zero (R75). Where two are, the higher one is named
(DESIGN CHOICE, log 9; safe: the spec refuses the word for either). -/
inductive Illegal where
  /-- bits 29:17 of a READ or WRITE -/
  | zero13
  /-- bits 7:0 of a READ -/
  | zero8
  /-- bits 29:0 of a RESET -/
  | zero30
deriving DecidableEq, Repr

end Sys2Proof
end

