-- ==== Sys2Proof/WellFormed.lean ====
section
/-! DEFINITION. Which commands are well formed. Operand widths are in the types; the one check is that `WR.RSVD`
carries a reserved address (spec/30_encoding.md R76: it applies only when no other `WR.*` line matches). -/

namespace Sys2Proof

/-- A command some word encodes. -/
def Instr.wellFormed : Instr → Bool
  | .wrCwave _ _ => true
  | .wrMwave _ _ => true
  | .wrCvol _ => true
  | .wrCflo _ => true
  | .wrCfhi _ => true
  | .wrMvol _ => true
  | .wrMctl _ => true
  | .wrMflo _ => true
  | .wrMfhi _ => true
  | .wrMaster _ => true
  | .wrP0ctl _ => true
  | .wrP0lo _ => true
  | .wrP0hi _ => true
  | .wrP1ctl _ => true
  | .wrP1lo _ => true
  | .wrP1hi _ => true
  | .wrTlo _ => true
  | .wrThi _ => true
  | .wrNctl _ => true
  | .wrNlo _ => true
  | .wrNhi _ => true
  | .wrRsvd addr _ => !Machine.implemented addr
  | .rd _ => true
  | .adv _ => true
  | .rst => true

end Sys2Proof
end

