-- ==== Sys2Proof/Decode.lean ====
section
/-! DEFINITION. Decoding and encoding of host command words (spec/30_encoding.md R70 to R76). The decoder reads
`kind`, then checks the must-be-zero fields of the format, then, for a WRITE, decodes the address. -/

namespace Sys2Proof

open Machine

/-- The WRITE dispatch by address, first line that matches (R76). -/
def decodeWrite (addr : Addr) (data : Byte) : Instr :=
  if addr.extractLsb' 6 3 = 0#3 then .wrCwave (addr.extractLsb' 0 6) data
  else if addr.extractLsb' 6 3 = 1#3 then .wrMwave (addr.extractLsb' 0 6) data
  else if addr = aCVOL then .wrCvol data
  else if addr = aCFLO then .wrCflo data
  else if addr = aCFHI then .wrCfhi data
  else if addr = aMVOL then .wrMvol data
  else if addr = aMCTL then .wrMctl data
  else if addr = aMFLO then .wrMflo data
  else if addr = aMFHI then .wrMfhi data
  else if addr = aMASTER then .wrMaster data
  else if addr = aP0CTL then .wrP0ctl data
  else if addr = aP0LO then .wrP0lo data
  else if addr = aP0HI then .wrP0hi data
  else if addr = aP1CTL then .wrP1ctl data
  else if addr = aP1LO then .wrP1lo data
  else if addr = aP1HI then .wrP1hi data
  else if addr = aTLO then .wrTlo data
  else if addr = aTHI then .wrThi data
  else if addr = aNCTL then .wrNctl data
  else if addr = aNLO then .wrNlo data
  else if addr = aNHI then .wrNhi data
  else .wrRsvd addr data

/-- The decoder: total on words, refusing an illegal word by the name of the field that is not zero (R75). -/
def decode (w : Hcw) : Except Illegal Instr :=
  let kind := w.extractLsb' 30 2
  let zero13 := w.extractLsb' 17 13
  let addr := w.extractLsb' 8 9
  let low8 := w.extractLsb' 0 8
  let low30 := w.extractLsb' 0 30
  if kind = 0#2 then
    if zero13 ≠ 0#13 then .error .zero13
    else if low8 ≠ 0#8 then .error .zero8
    else .ok (.rd addr)
  else if kind = 1#2 then
    if zero13 ≠ 0#13 then .error .zero13
    else .ok (decodeWrite addr low8)
  else if kind = 2#2 then .ok (.adv low30)
  else if low30 ≠ 0#30 then .error .zero30
  else .ok .rst

/-- Format B, READ (R71). -/
def readWord (addr : Addr) : Hcw := 0#2 ++ (0#13 ++ (addr ++ 0#8))

/-- Format B, WRITE (R72). -/
def writeWord (addr : Addr) (data : Byte) : Hcw := 1#2 ++ (0#13 ++ (addr ++ data))

/-- The encoder: the word of a command (R71 to R74, R76). -/
def encode : Instr → Hcw
  | .wrCwave i data => writeWord (cwaveAddr i) data
  | .wrMwave i data => writeWord (mwaveAddr i) data
  | .wrCvol data => writeWord aCVOL data
  | .wrCflo data => writeWord aCFLO data
  | .wrCfhi data => writeWord aCFHI data
  | .wrMvol data => writeWord aMVOL data
  | .wrMctl data => writeWord aMCTL data
  | .wrMflo data => writeWord aMFLO data
  | .wrMfhi data => writeWord aMFHI data
  | .wrMaster data => writeWord aMASTER data
  | .wrP0ctl data => writeWord aP0CTL data
  | .wrP0lo data => writeWord aP0LO data
  | .wrP0hi data => writeWord aP0HI data
  | .wrP1ctl data => writeWord aP1CTL data
  | .wrP1lo data => writeWord aP1LO data
  | .wrP1hi data => writeWord aP1HI data
  | .wrTlo data => writeWord aTLO data
  | .wrThi data => writeWord aTHI data
  | .wrNctl data => writeWord aNCTL data
  | .wrNlo data => writeWord aNLO data
  | .wrNhi data => writeWord aNHI data
  | .wrRsvd addr data => writeWord addr data
  | .rd addr => readWord addr
  | .adv count => 2#2 ++ count
  | .rst => 3#2 ++ 0#30

/-- The command word whose low `nbits` bits are those of `w` and whose other bits are 0. A command is one
32-bit word, not a byte sequence (R70, R79), so its layout is the word itself. -/
def tableWord (nbits w : Nat) : Hcw := BitVec.ofNat 32 (w % 2 ^ nbits)

/-- The command the decoder reads from a table word; none where it refuses. -/
def decodeTableWord (nbits w : Nat) : Option Instr :=
  match decode (tableWord nbits w) with
  | .ok i => some i
  | .error _ => none

end Sys2Proof
end

