-- ==== Sys2Proof/Config.lean ====
section
/-! DEFINITION. The configuration record `CFG` (spec/00_scope.md R5) and the reference configuration `CFG0` (R6).
The source gives a value for no field. A `Cfg` carries the proofs that it is admissible, so an inadmissible
configuration (93_implementation_defined.md U31) cannot be written down. -/

namespace Sys2Proof

/-- An admissible configuration: the fields of R5, in its order, and then their constraints. -/
structure Cfg where
  /-- `CPS`: master-clock cycles per audio step. -/
  cps : Nat
  /-- `EG_FRAC_BITS`: correction bits of the WFM envelope clock. -/
  egFracBits : Nat
  /-- `EG_PERIOD_FX`: period of the WFM envelope clock in units of `2^-EG_FRAC_BITS` cycles. -/
  egPeriodFx : Nat
  /-- `OUT_SHIFT`: extra right shift applied to the WFM output. -/
  outShift : Int
  /-- `MGAIN_LOG[0..3]`: master gains as log-domain attenuations, each below 65536. -/
  mgainLog : Vector (BitVec 16) 4
  /-- `VOL_CEIL`: cap of the carrier's envelope level at the output. -/
  volCeil : BitVec 6
  /-- `RESET_CWAVE[0..63]`: the carrier table bytes that RESET re-seeds. -/
  resetCwave : Vector Byte 64
  /-- `RESET_MWAVE[0..63]`: the modulator table bytes that RESET re-seeds. -/
  resetMwave : Vector Byte 64
  /-- `PNC_DIV`: master-clock cycles per PNC internal clock. -/
  pncDiv : Nat
  /-- `PNC_ENV_PERIOD`: PNC internal clocks per PNC envelope clock. -/
  pncEnvPeriod : Nat
  /-- `PNC_GAIN`: linear scale of the PNC mixer. -/
  pncGain : Nat
  /-- `DUTY_HIGH[0..3]`: high steps out of 8 for each duty selector, each `0..8`. -/
  dutyHigh : Vector (Fin 9) 4
  cps_pos : 1 ≤ cps := by decide
  egPeriodFx_pos : 1 ≤ egPeriodFx := by decide
  outShift_ge : -23 ≤ outShift := by decide
  volCeil_pos : 1 ≤ volCeil.toNat := by decide
  pncDiv_pos : 1 ≤ pncDiv := by decide
  pncEnvPeriod_pos : 1 ≤ pncEnvPeriod := by decide
  pncGain_le : pncGain ≤ 546 := by decide
deriving DecidableEq, Repr

/-- `CFG0` (R6), the spec's reference configuration; it carries no evidence from the source.
DESIGN CHOICE (log 1): `State.reset` takes it; unsafe only for a statement about `State.reset` itself. -/
def Cfg.cfg0 : Cfg where
  cps := 16
  egFracBits := 4
  egPeriodFx := 2048
  outShift := -10
  mgainLog := #v[0, 2396, 4096, 5415]
  volCeil := 31
  resetCwave := Vector.replicate 64 0
  resetMwave := Vector.replicate 64 0
  pncDiv := 2
  pncEnvPeriod := 32
  pncGain := 256
  dutyHigh := #v[1, 2, 4, 6]

end Sys2Proof
end

