-- ==== Sys2Proof/Machine/Memory.lean ====
section
/-! DEFINITION. The raw register file `raw` (spec/10_state.md R21, 20_memory.md R50) as a canonical list of cells:
addresses strictly rising, only implemented addresses, no cell equal to what an unlisted address reads as. -/

namespace Sys2Proof.Machine

/-- The raw register file: cells by local address. -/
abbrev Memory := List Host.Cell

/-- What an unlisted address reads as: the reset byte of every register outside the waveform tables (R42), and
what a reserved address reads as (R57). -/
def Memory.unlisted : Byte := 0#8

/-- The byte at an address. -/
def Memory.read (m : Memory) (a : Nat) : Byte :=
  match m with
  | [] => Memory.unlisted
  | c :: rest => if c.1 = a then c.2 else Memory.read rest a

/-- The cells without those at address `a`. -/
def Memory.erase (m : Memory) (a : Nat) : Memory := m.filter (fun c => decide (c.1 ≠ a))

/-- The cell `(a, v)` put before the first cell at a higher address. -/
def Memory.insert (m : Memory) (a : Nat) (v : Byte) : Memory :=
  match m with
  | [] => [(a, v)]
  | c :: rest => if a < c.1 then (a, v) :: c :: rest else c :: Memory.insert rest a v

/-- Write a byte, keeping the canonical form: writing what an unlisted address reads as removes the cell. -/
def Memory.write (m : Memory) (a : Nat) (v : Byte) : Memory :=
  if v = Memory.unlisted then m.erase a else (m.erase a).insert a v

/-- The canonical form. -/
abbrev Memory.wf (m : Memory) : Prop :=
  m.Pairwise (fun c d => c.1 < d.1) ∧
    ∀ c ∈ m, c.2 ≠ Memory.unlisted ∧ c.1 < 512 ∧ implemented (BitVec.ofNat 9 c.1) = true

/-- `raw[a]` for a local address (00_scope.md R11). -/
def Memory.byte (m : Memory) (a : Addr) : Byte := Memory.read m a.toNat

/-- Bytes at consecutive addresses from `base` on, as cells in canonical form. -/
def Memory.image (base : Nat) (bytes : List Byte) : Memory :=
  match bytes with
  | [] => []
  | v :: rest =>
    if v = Memory.unlisted then Memory.image (base + 1) rest else (base, v) :: Memory.image (base + 1) rest

/-- `raw` after RESET (R42): the two waveform tables from the configuration at `0x000` and `0x040`, every other
register 0. -/
def Memory.resetImage (c : Cfg) : Memory := Memory.image 0 (c.resetCwave.toList ++ c.resetMwave.toList)

end Sys2Proof.Machine
end

