-- ==== Sys2Proof/Machine/State.lean ====
section
/-! DEFINITION. The state of the PAO block (spec/10_state.md R20), what an outcome may say, and the state after
RESET (R42). Each unit's internal state is a record of its own: PNC and WFM share no state (40_host_commands.md R94). -/

namespace Sys2Proof.Machine

/-- A WFM envelope: current level and rate counter, 6 bits each (R29, R30). -/
structure WfmEnv where
  lvl : BitVec 6
  cnt : BitVec 6
deriving DecidableEq, Repr

/-- The internal state of the WFM unit. -/
structure Wfm where
  /-- `c_phase`, the carrier's phase accumulator (R24). -/
  cPhase : Phase
  /-- `m_phase`, the modulator's phase accumulator (R25). -/
  mPhase : Phase
  /-- `bias`, in `-64 .. 63` at every command boundary (R28). -/
  bias : Int
  /-- `c_lvl`, `c_cnt`. -/
  cEnv : WfmEnv
  /-- `m_lvl`, `m_cnt`. -/
  mEnv : WfmEnv
  /-- `eg_acc`, the envelope clock's accumulator (R31). -/
  egAcc : Nat
deriving DecidableEq, Repr

/-- A PNC envelope: current level and rate counter, 4 bits each (R36, R38). -/
structure PncEnv where
  lvl : BitVec 4
  cnt : BitVec 4
deriving DecidableEq, Repr

/-- A pulse oscillator: period timer, sequencer position, envelope (R36). -/
structure Pulse where
  acc : BitVec 11
  seq : BitVec 3
  env : PncEnv
deriving DecidableEq, Repr

/-- The triangle oscillator: period timer, sequencer position (R37). -/
structure Triangle where
  acc : BitVec 11
  seq : BitVec 5
deriving DecidableEq, Repr

/-- The noise channel: period timer, shift register, envelope (R38). -/
structure Noise where
  acc : BitVec 11
  lfsr : BitVec 15
  env : PncEnv
deriving DecidableEq, Repr

/-- The internal state of the PNC unit. -/
structure Pnc where
  p0 : Pulse
  p1 : Pulse
  tri : Triangle
  noise : Noise
  /-- `pnc_div_acc` (R39). -/
  divAcc : Nat
  /-- `pnc_env_acc` (R39). -/
  envAcc : Nat
deriving DecidableEq, Repr

/-- One output pair `(pnc_out, wfm_out)` (R40). -/
structure SamplePair where
  pnc : Sample
  wfm : Sample
deriving DecidableEq, Repr

/-- What the host interface reports of a command it refused (60_exceptions.md R206). -/
inductive PortRefusal where
  /-- R206 (a): an illegal command word. -/
  | illegal (why : Illegal)
  /-- R206 (b): a command other than RESET while `live = 0`. -/
  | beforeReset
deriving DecidableEq, Repr

/-- The state: the block's elements (R20), the configuration it is built with, and the host's side of the port. -/
structure State where
  /-- `CFG` (00_scope.md R5): constant; no step changes it (log 1). -/
  cfg : Cfg
  /-- `live` (R41). -/
  live : Bool
  /-- `cyc_acc` (R33). -/
  cycAcc : Nat
  /-- `raw` (R21). -/
  raw : Memory
  wfm : Wfm
  pnc : Pnc
  /-- `samples`, oldest first (R40). -/
  samples : List SamplePair
  /-- `reads`, oldest first (R40). -/
  reads : List Byte
  /-- The host's remaining command words, next first: no state of the block (40_host_commands.md R95; log 2). -/
  pending : List Hcw
  /-- What the port reports of the last command presented: none when it was performed (R206; log 3). -/
  report : Option PortRefusal
deriving DecidableEq, Repr

/-- The block raises no exception, so there is no kind of fault (60_exceptions.md R200). Nothing raises one; safe. -/
inductive Fault where
deriving DecidableEq, Repr

/-- What the model itself leaves without a meaning. -/
inductive Refusal where
  /-- Raised only by an arm of `exec` whose instruction has no meaning yet; safe. No arm does. -/
  | notModelled (mnemonic : String)
deriving DecidableEq, Repr

/-- The WFM unit after RESET (R42). -/
def Wfm.reset : Wfm :=
  { cPhase := 0, mPhase := 0, bias := 0, cEnv := ⟨0, 0⟩, mEnv := ⟨0, 0⟩, egAcc := 0 }

/-- The PNC unit after RESET (R42): all 0 but the shift register's seed 1. -/
def Pnc.reset : Pnc :=
  { p0 := ⟨0, 0, ⟨0, 0⟩⟩, p1 := ⟨0, 0, ⟨0, 0⟩⟩, tri := ⟨0, 0⟩, noise := ⟨0, 1, ⟨0, 0⟩⟩, divAcc := 0, envAcc := 0 }

/-- The block of configuration `c` after its first RESET from power-on: R42, with the streams still empty (R220). -/
def State.resetWith (c : Cfg) : State :=
  { cfg := c, live := true, cycAcc := 0, raw := Memory.resetImage c, wfm := Wfm.reset, pnc := Pnc.reset,
    samples := [], reads := [], pending := [], report := none }

/-- The machine right after reset, in the reference configuration `CFG0` (log 1, log 4). -/
def State.reset : State := State.resetWith Cfg.cfg0

end Sys2Proof.Machine
end

