-- ==== Sys2Proof/Machine/Flags.lean ====
section
/-! DEFINITION. The one-bit controls (spec/10_state.md R45). The block has no condition codes and no status flag that
a command sets; every one-bit control is a field of `raw` (or `live`), so these are all views. -/

namespace Sys2Proof.Machine

/-- Bit 7 of `CFHI`, `MCTL` or a PNC high register value: 1 = enabled (R22, R34). -/
def enableBit (reg : Byte) : Bool := reg[7]

/-- `CEN = raw[0x082][7]`: the carrier is enabled (R23). -/
def cen (m : Memory) : Bool := enableBit (m.byte aCFHI)

/-- `MEN = raw[0x084][7]`: the modulator is enabled (R23). -/
def men (m : Memory) : Bool := enableBit (m.byte aMCTL)

/-- `MODE`, bit 7 of a volume register value: 1 = fixed volume, envelope disabled (R22). -/
def fixedMode (reg : Byte) : Bool := reg[7]

/-- `DIR`, bit 6 of a volume register value in ramp mode: 1 = up (R22). -/
def rampUp (reg : Byte) : Bool := reg[6]

/-- `en = raw[hi][7]` of a PNC channel with high register at `hi` (R35). -/
def enabled (m : Memory) (hi : Addr) : Bool := enableBit (m.byte hi)

/-- `DECAY`, bit 4 of a PNC control register value: 1 = decaying envelope (R34). -/
def decayBit (ctl : Byte) : Bool := ctl[4]

end Sys2Proof.Machine
end

