-- ==== Sys2Proof/Machine/Operands.lean ====
section
/-! DEFINITION. The views: multi-bit quantities that are functions of `raw` and of the phases (spec/10_state.md R23,
R26, R27, R32, R35). A view changes at the instant its byte is written; there is no latch. -/

namespace Sys2Proof.Machine

/-- `cwave(i) = raw[0x000 + i][5:0]` (R27). -/
def cwave (m : Memory) (i : BitVec 6) : BitVec 6 := (m.byte (cwaveAddr i)).extractLsb' 0 6

/-- `msel(i) = raw[0x040 + i][2:0]` (R27). -/
def msel (m : Memory) (i : BitVec 6) : BitVec 3 := (m.byte (mwaveAddr i)).extractLsb' 0 3

/-- `cfreq = {raw[0x082][3:0], raw[0x081]}` (R23). -/
def cfreq (m : Memory) : BitVec 12 := (m.byte aCFHI).extractLsb' 0 4 ++ m.byte aCFLO

/-- `mfreq = {raw[0x086][3:0], raw[0x085]}` (R23). -/
def mfreq (m : Memory) : BitVec 12 := (m.byte aMFHI).extractLsb' 0 4 ++ m.byte aMFLO

/-- `c_mul = cfreq x CPS`, the cached multiplier as a view (R32). -/
def cMul (c : Cfg) (m : Memory) : Nat := (cfreq m).toNat * c.cps

/-- `m_mul = mfreq x CPS` (R32). -/
def mMul (c : Cfg) (m : Memory) : Nat := (mfreq m).toNat * c.cps

/-- The rate or volume field `[5:0]` of a WFM volume register value (R22, R23). -/
def volField (reg : Byte) : BitVec 6 := reg.extractLsb' 0 6

/-- `master = raw[0x087][1:0]` (R23). -/
def master (m : Memory) : BitVec 2 := (m.byte aMASTER).extractLsb' 0 2

/-- `c_ptr` or `m_ptr`: the table index of a phase, `phase[21:16]` (R26). -/
def phaseIndex (p : Phase) : BitVec 6 := p.extractLsb' 16 6

/-- `period = {raw[hi][2:0], raw[lo]}` of a PNC channel with low and high registers at `lo` and `hi` (R35). -/
def period (m : Memory) (lo hi : Addr) : BitVec 11 := (m.byte hi).extractLsb' 0 3 ++ m.byte lo

/-- `duty = ctl[7:6]` of a PNC control register value (R35). -/
def dutySel (ctl : Byte) : BitVec 2 := ctl.extractLsb' 6 2

/-- `val = ctl[3:0]` of a PNC control register value (R35). -/
def valField (ctl : Byte) : BitVec 4 := ctl.extractLsb' 0 4

/-- `MGAIN_LOG[level]` (00_scope.md R5). -/
def mgain (c : Cfg) (level : BitVec 2) : Nat := (c.mgainLog[level.toNat]'level.isLt).toNat

/-- `DUTY_HIGH[d]` (00_scope.md R5). -/
def dutyHigh (c : Cfg) (d : BitVec 2) : Nat := (c.dutyHigh[d.toNat]'d.isLt).val

end Sys2Proof.Machine
end

