-- ==== Sys2Proof/Machine/Ops.lean ====
section
/-! DEFINITION. The operations every command shares: taking the next command word, refusing a command, storing a
byte, the two output streams, and the remainder-carrying clock divider. The block takes no exception and returns from
none (spec/60_exceptions.md R200, R204); a refusal at the port (R206) is the nearest thing, and `State.refuse` is it. -/

namespace Sys2Proof.Machine

/-- The next command word the host presents, and the state in which it is performed: the word taken, the report of
the command before it gone. None when the sequence is exhausted (40_host_commands.md R95). -/
def State.nextCommand (s : State) : Option (Hcw × State) :=
  match s.pending with
  | [] => none
  | w :: rest => some (w, { s with pending := rest, report := none })

/-- A refused command: nothing changes but what the port reports (R206; log 3). -/
def State.refuse (s : State) (why : PortRefusal) : State := { s with report := some why }

/-- A command that needs `live = 1`: performed as `f`, or refused before the first RESET (R206 (b)). -/
def whenLive (s : State) (f : State → State) : Host.Outcome State Fault Refusal :=
  if s.live then .next (f s) else .next (s.refuse .beforeReset)

/-- `raw[a] <- v`, all eight bits (00_scope.md R11, 40_host_commands.md R91). -/
def State.store (s : State) (a : Addr) (v : Byte) : State := { s with raw := s.raw.write a.toNat v }

/-- `emit_read(v)` (R11): append a byte to the read-data stream. -/
def State.emitRead (s : State) (v : Byte) : State := { s with reads := s.reads ++ [v] }

/-- `emit_sample(p, w)` (R11): append a pair to the sample stream. -/
def State.emitSample (s : State) (p w : Sample) : State := { s with samples := s.samples ++ [⟨p, w⟩] }

/-- What a clock divider leaves and how often it ticked. -/
structure Divided where
  rest : Nat
  ticks : Nat
deriving DecidableEq, Repr

/-- The remainder-carrying divider `while acc >= period do acc <- acc - period; tick`: the number of ticks is
`acc div period` and the value left is `acc mod period` (R92 says so of its loop; R130, R131, R133, R171 likewise;
log 7). Called with `period >= 1` only. -/
def divider (acc period : Nat) : Divided := { rest := acc % period, ticks := acc / period }

end Sys2Proof.Machine
end

