-- ==== Sys2Proof/Machine/PncStep.lean ====
section
/-! DEFINITION. One audio step of the PNC unit (spec/43_pnc_step.md R130 to R138): clocks, envelopes, two pulse
oscillators, triangle, noise, mixer. A step reads the configuration and `raw` and writes neither. -/

namespace Sys2Proof.Machine

/-- `PNC.ENVTICK(ch)`: one envelope clock of a channel whose control register holds `ctl` (R132). -/
def pncEnvTick (ctl : Byte) (e : PncEnv) : PncEnv :=
  if decayBit ctl then
    if e.cnt.toNat ≥ (valField ctl).toNat then
      { lvl := if e.lvl.toNat > 0 then e.lvl - 1 else e.lvl, cnt := 0 }
    else { e with cnt := e.cnt + 1 }
  else e

/-- One PNC envelope clock: pulse 0, pulse 1, noise, in this order (R131). -/
def pncEnvClock (m : Memory) (u : Pnc) : Pnc :=
  let u := { u with p0 := { u.p0 with env := pncEnvTick (m.byte aP0CTL) u.p0.env } }
  let u := { u with p1 := { u.p1 with env := pncEnvTick (m.byte aP1CTL) u.p1.env } }
  { u with noise := { u.noise with env := pncEnvTick (m.byte aNCTL) u.noise.env } }

/-- `PNC.CLK`: the unit with its remainder of master cycles, and `k`, the internal clocks of this step (R130). -/
def pncClk (c : Cfg) (u : Pnc) : Pnc × Nat :=
  let d := divider (u.divAcc + c.cps) c.pncDiv
  ({ u with divAcc := d.rest }, d.ticks)

/-- `PNC.ENVCLK`: one envelope clock per `PNC_ENV_PERIOD` internal clocks (R131). -/
def pncEnvClk (c : Cfg) (m : Memory) (k : Nat) (u : Pnc) : Pnc :=
  let d := divider (u.envAcc + k) c.pncEnvPeriod
  Nat.iterate (pncEnvClock m) d.ticks { u with envAcc := d.rest }

/-- `PNC.TIMER(acc, period, k)`: the timer after `k` internal clocks and the sequencer steps made (R133). -/
def pncTimer (acc per : BitVec 11) (k : Nat) : BitVec 11 × Nat :=
  let d := divider (acc.toNat + k) (per.toNat + 1)
  (BitVec.ofNat 11 d.rest, d.ticks)

/-- `PNC.PULSE(c)` for the oscillator with registers `ctl`, `lo`, `hi`: the oscillator and its output, sampled after
the advance (R134). -/
def pncPulse (c : Cfg) (m : Memory) (ctl lo hi : Addr) (k : Nat) (p : Pulse) : Pulse × Nat :=
  if enabled m hi then
    let t := pncTimer p.acc (period m lo hi) k
    let seq := BitVec.ofNat 3 (p.seq.toNat + t.2)
    ({ p with acc := t.1, seq := seq },
      if seq.toNat < dutyHigh c (dutySel (m.byte ctl)) then p.env.lvl.toNat else 0)
  else (p, 0)

/-- `TRI[s]`: 15 down to 0, then 0 up to 15 (R135). -/
def triSeq (s : BitVec 5) : Nat := if s.toNat ≤ 15 then 15 - s.toNat else s.toNat - 16

/-- `PNC.TRI` (R135). -/
def pncTri (m : Memory) (k : Nat) (t : Triangle) : Triangle × Nat :=
  if enabled m aTHI then
    let r := pncTimer t.acc (period m aTLO aTHI) k
    let seq := BitVec.ofNat 5 (t.seq.toNat + r.2)
    ({ acc := r.1, seq := seq }, triSeq seq)
  else (t, 0)

/-- One shift of the noise register: feedback bit 0 xor bit 1 into bit 14 (R136). -/
def lfsrShift (l : BitVec 15) : BitVec 15 := BitVec.ofBool (l[0] ^^ l[1]) ++ l.extractLsb' 1 14

/-- `PNC.NOISE` (R136). -/
def pncNoise (m : Memory) (k : Nat) (n : Noise) : Noise × Nat :=
  if enabled m aNHI then
    let t := pncTimer n.acc (period m aNLO aNHI) k
    let l := Nat.iterate lfsrShift t.2 n.lfsr
    ({ n with acc := t.1, lfsr := l }, if l[0] then 0 else n.env.lvl.toNat)
  else (n, 0)

/-- `PNC.MIX`: the plain sum of the four outputs, scaled (R137). -/
def pncMix (c : Cfg) (o0 o1 ot on : Nat) : Nat := c.pncGain * (o0 + o1 + ot + on)

/-- `PNC.STEP`: the unit after one audio step, and its sample (R138): clocks, envelope clocks, oscillators, mixer. -/
def pncStep (c : Cfg) (m : Memory) (u : Pnc) : Pnc × Sample :=
  let (u, k) := pncClk c u
  let u := pncEnvClk c m k u
  let (p0, o0) := pncPulse c m aP0CTL aP0LO aP0HI k u.p0
  let (p1, o1) := pncPulse c m aP1CTL aP1LO aP1HI k u.p1
  let (tri, ot) := pncTri m k u.tri
  let (noise, on) := pncNoise m k u.noise
  ({ u with p0 := p0, p1 := p1, tri := tri, noise := noise }, BitVec.ofNat 16 (pncMix c o0 o1 ot on))

end Sys2Proof.Machine
end

