-- ==== Sys2Proof/Machine/LvuTables.lean ====
section
/-! DEFINITION. The constant tables of the LVU (spec/41_log_volume_unit.md R100, R101), listed as the spec lists them:
`LOG2LIN` from 96_log2lin_table_a.md and 97_log2lin_table_b.md in pieces of 64 entries, rows of 8; `LIN2LOG` from R101.
They are constants of the hardware: no command reads, writes or initialises them (R106). -/

namespace Sys2Proof.Machine

/-- `LOG2LIN[0..63]`. -/
def log2lin0000 : List Nat := [
  1073741824, 1073560134, 1073378476, 1073196849, 1073015252, 1072833686, 1072652151, 1072470646,
  1072289172, 1072107729, 1071926316, 1071744935, 1071563583, 1071382263, 1071200973, 1071019714,
  1070838486, 1070657288, 1070476121, 1070294985, 1070113879, 1069932804, 1069751759, 1069570745,
  1069389762, 1069208810, 1069027888, 1068846996, 1068666136, 1068485305, 1068304506, 1068123737,
  1067942999, 1067762291, 1067581614, 1067400967, 1067220351, 1067039765, 1066859211, 1066678686,
  1066498192, 1066317729, 1066137296, 1065956894, 1065776522, 1065596181, 1065415870, 1065235590,
  1065055341, 1064875121, 1064694933, 1064514775, 1064334647, 1064154550, 1063974483, 1063794447,
  1063614441, 1063434466, 1063254521, 1063074606, 1062894722, 1062714869, 1062535046, 1062355253]

/-- `LOG2LIN[64..127]`. -/
def log2lin0064 : List Nat := [
  1062175491, 1061995759, 1061816057, 1061636386, 1061456746, 1061277136, 1061097556, 1060918006,
  1060738487, 1060558999, 1060379540, 1060200112, 1060020715, 1059841347, 1059662011, 1059482704,
  1059303428, 1059124182, 1058944966, 1058765781, 1058586626, 1058407502, 1058228407, 1058049343,
  1057870310, 1057691306, 1057512333, 1057333391, 1057154478, 1056975596, 1056796744, 1056617922,
  1056439131, 1056260370, 1056081639, 1055902938, 1055724267, 1055545627, 1055367017, 1055188437,
  1055009888, 1054831368, 1054652879, 1054474420, 1054295992, 1054117593, 1053939225, 1053760887,
  1053582579, 1053404301, 1053226053, 1053047836, 1052869648, 1052691491, 1052513364, 1052335267,
  1052157200, 1051979164, 1051801157, 1051623181, 1051445234, 1051267318, 1051089432, 1050911576]

/-- `LOG2LIN[128..191]`. -/
def log2lin0128 : List Nat := [
  1050733750, 1050555955, 1050378189, 1050200453, 1050022748, 1049845072, 1049667427, 1049489812,
  1049312226, 1049134671, 1048957146, 1048779651, 1048602185, 1048424750, 1048247345, 1048069970,
  1047892625, 1047715310, 1047538025, 1047360770, 1047183545, 1047006350, 1046829185, 1046652050,
  1046474945, 1046297870, 1046120824, 1045943809, 1045766824, 1045589869, 1045412943, 1045236048,
  1045059182, 1044882347, 1044705541, 1044528765, 1044352020, 1044175304, 1043998618, 1043821961,
  1043645335, 1043468739, 1043292172, 1043115636, 1042939129, 1042762652, 1042586205, 1042409788,
  1042233401, 1042057043, 1041880716, 1041704418, 1041528150, 1041351912, 1041175704, 1040999525,
  1040823377, 1040647258, 1040471169, 1040295110, 1040119080, 1039943081, 1039767111, 1039591171]

/-- `LOG2LIN[192..255]`. -/
def log2lin0192 : List Nat := [
  1039415260, 1039239380, 1039063529, 1038887708, 1038711917, 1038536155, 1038360423, 1038184721,
  1038009049, 1037833406, 1037657793, 1037482210, 1037306657, 1037131133, 1036955639, 1036780174,
  1036604740, 1036429335, 1036253959, 1036078614, 1035903298, 1035728011, 1035552755, 1035377528,
  1035202331, 1035027163, 1034852025, 1034676916, 1034501838, 1034326788, 1034151769, 1033976779,
  1033801819, 1033626888, 1033451987, 1033277115, 1033102273, 1032927461, 1032752678, 1032577925,
  1032403201, 1032228507, 1032053843, 1031879208, 1031704603, 1031530027, 1031355480, 1031180964,
  1031006476, 1030832019, 1030657591, 1030483192, 1030308823, 1030134483, 1029960173, 1029785892,
  1029611641, 1029437419, 1029263227, 1029089064, 1028914931, 1028740827, 1028566753, 1028392708]

/-- `LOG2LIN[256..319]`. -/
def log2lin0256 : List Nat := [
  1028218693, 1028044707, 1027870750, 1027696823, 1027522925, 1027349057, 1027175218, 1027001409,
  1026827629, 1026653878, 1026480157, 1026306465, 1026132803, 1025959170, 1025785566, 1025611992,
  1025438447, 1025264932, 1025091445, 1024917989, 1024744561, 1024571163, 1024397794, 1024224455,
  1024051145, 1023877864, 1023704612, 1023531390, 1023358197, 1023185034, 1023011900, 1022838795,
  1022665719, 1022492673, 1022319656, 1022146668, 1021973709, 1021800780, 1021627880, 1021455009,
  1021282168, 1021109356, 1020936573, 1020763819, 1020591094, 1020418399, 1020245733, 1020073096,
  1019900488, 1019727910, 1019555361, 1019382841, 1019210350, 1019037888, 1018865456, 1018693052,
  1018520678, 1018348333, 1018176017, 1018003731, 1017831473, 1017659245, 1017487046, 1017314876]

/-- `LOG2LIN[320..383]`. -/
def log2lin0320 : List Nat := [
  1017142735, 1016970623, 1016798540, 1016626487, 1016454462, 1016282467, 1016110500, 1015938563,
  1015766655, 1015594776, 1015422926, 1015251106, 1015079314, 1014907551, 1014735818, 1014564113,
  1014392438, 1014220791, 1014049174, 1013877586, 1013706026, 1013534496, 1013362995, 1013191522,
  1013020079, 1012848665, 1012677280, 1012505924, 1012334596, 1012163298, 1011992029, 1011820789,
  1011649577, 1011478395, 1011307242, 1011136117, 1010965022, 1010793956, 1010622918, 1010451909,
  1010280930, 1010109979, 1009939057, 1009768164, 1009597300, 1009426465, 1009255659, 1009084882,
  1008914134, 1008743414, 1008572724, 1008402062, 1008231429, 1008060825, 1007890250, 1007719704,
  1007549187, 1007378698, 1007208239, 1007037808, 1006867406, 1006697033, 1006526689, 1006356373]

/-- `LOG2LIN[384..447]`. -/
def log2lin0384 : List Nat := [
  1006186086, 1006015829, 1005845600, 1005675399, 1005505228, 1005335085, 1005164972, 1004994887,
  1004824830, 1004654803, 1004484804, 1004314834, 1004144893, 1003974981, 1003805097, 1003635242,
  1003465416, 1003295618, 1003125850, 1002956110, 1002786398, 1002616716, 1002447062, 1002277437,
  1002107840, 1001938273, 1001768734, 1001599223, 1001429741, 1001260288, 1001090864, 1000921469,
  1000752102, 1000582763, 1000413454, 1000244172, 1000074920, 999905696, 999736501, 999567335,
  999398197, 999229088, 999060007, 998890955, 998721932, 998552937, 998383971, 998215033,
  998046124, 997877244, 997708392, 997539568, 997370774, 997202007, 997033270, 996864561,
  996695880, 996527228, 996358605, 996190010, 996021444, 995852906, 995684396, 995515916]

/-- `LOG2LIN[448..511]`. -/
def log2lin0448 : List Nat := [
  995347463, 995179039, 995010644, 994842277, 994673939, 994505629, 994337348, 994169095,
  994000870, 993832675, 993664507, 993496368, 993328257, 993160175, 992992122, 992824096,
  992656099, 992488131, 992320191, 992152280, 991984396, 991816542, 991648715, 991480917,
  991313148, 991145407, 990977694, 990810010, 990642354, 990474726, 990307127, 990139556,
  989972013, 989804499, 989637013, 989469555, 989302126, 989134725, 988967353, 988800009,
  988632693, 988465405, 988298146, 988130915, 987963712, 987796538, 987629392, 987462274,
  987295184, 987128123, 986961090, 986794085, 986627109, 986460161, 986293241, 986126349,
  985959485, 985792650, 985625843, 985459064, 985292314, 985125591, 984958897, 984792231]

/-- `LOG2LIN[512..575]`. -/
def log2lin0512 : List Nat := [
  984625593, 984458984, 984292403, 984125849, 983959324, 983792828, 983626359, 983459918,
  983293506, 983127122, 982960766, 982794438, 982628139, 982461867, 982295624, 982129408,
  981963221, 981797062, 981630931, 981464828, 981298754, 981132707, 980966688, 980800698,
  980634736, 980468801, 980302895, 980137017, 979971167, 979805345, 979639551, 979473785,
  979308048, 979142338, 978976656, 978811002, 978645377, 978479779, 978314210, 978148668,
  977983154, 977817669, 977652211, 977486782, 977321380, 977156006, 976990661, 976825343,
  976660054, 976494792, 976329558, 976164352, 975999175, 975834025, 975668903, 975503809,
  975338743, 975173705, 975008694, 974843712, 974678758, 974513831, 974348933, 974184062]

/-- `LOG2LIN[576..639]`. -/
def log2lin0576 : List Nat := [
  974019220, 973854405, 973689618, 973524859, 973360128, 973195424, 973030749, 972866101,
  972701482, 972536890, 972372326, 972207789, 972043281, 971878801, 971714348, 971549923,
  971385526, 971221157, 971056816, 970892502, 970728216, 970563958, 970399728, 970235526,
  970071351, 969907204, 969743085, 969578994, 969414931, 969250895, 969086887, 968922907,
  968758954, 968595029, 968431132, 968267263, 968103422, 967939608, 967775822, 967612063,
  967448333, 967284630, 967120954, 966957307, 966793687, 966630095, 966466530, 966302994,
  966139484, 965976003, 965812549, 965649123, 965485724, 965322353, 965159010, 964995695,
  964832407, 964669146, 964505914, 964342709, 964179531, 964016381, 963853259, 963690164]

/-- `LOG2LIN[640..703]`. -/
def log2lin0640 : List Nat := [
  963527097, 963364058, 963201046, 963038062, 962875105, 962712176, 962549274, 962386400,
  962223554, 962060735, 961897944, 961735180, 961572444, 961409735, 961247054, 961084400,
  960921774, 960759176, 960596604, 960434061, 960271545, 960109056, 959946595, 959784162,
  959621755, 959459377, 959297026, 959134702, 958972406, 958810137, 958647896, 958485682,
  958323496, 958161337, 957999205, 957837101, 957675024, 957512975, 957350953, 957188959,
  957026992, 956865052, 956703140, 956541256, 956379398, 956217568, 956055766, 955893990,
  955732243, 955570522, 955408829, 955247163, 955085525, 954923914, 954762330, 954600774,
  954439245, 954277743, 954116269, 953954822, 953793402, 953632010, 953470644, 953309307]

/-- `LOG2LIN[704..767]`. -/
def log2lin0704 : List Nat := [
  953147996, 952986713, 952825457, 952664228, 952503027, 952341853, 952180706, 952019587,
  951858495, 951697430, 951536392, 951375381, 951214398, 951053442, 950892513, 950731612,
  950570737, 950409890, 950249070, 950088278, 949927512, 949766774, 949606063, 949445379,
  949284723, 949124093, 948963491, 948802916, 948642368, 948481847, 948321353, 948160887,
  948000447, 947840035, 947679650, 947519292, 947358962, 947198658, 947038382, 946878132,
  946717910, 946557715, 946397547, 946237406, 946077292, 945917205, 945757146, 945597113,
  945437107, 945277129, 945117178, 944957253, 944797356, 944637486, 944477643, 944317827,
  944158038, 943998276, 943838541, 943678833, 943519152, 943359498, 943199871, 943040271]

/-- `LOG2LIN[768..831]`. -/
def log2lin0768 : List Nat := [
  942880699, 942721153, 942561634, 942402142, 942242677, 942083239, 941923828, 941764444,
  941605087, 941445757, 941286454, 941127178, 940967929, 940808707, 940649512, 940490343,
  940331202, 940172088, 940013000, 939853939, 939694906, 939535899, 939376919, 939217966,
  939059040, 938900141, 938741269, 938582423, 938423605, 938264813, 938106048, 937947310,
  937788599, 937629915, 937471258, 937312627, 937154023, 936995447, 936836897, 936678373,
  936519877, 936361408, 936202965, 936044549, 935886160, 935727798, 935569462, 935411153,
  935252871, 935094616, 934936388, 934778186, 934620012, 934461863, 934303742, 934145648,
  933987580, 933829539, 933671525, 933513537, 933355576, 933197642, 933039735, 932881854]

/-- `LOG2LIN[832..895]`. -/
def log2lin0832 : List Nat := [
  932724000, 932566173, 932408372, 932250599, 932092851, 931935131, 931777437, 931619770,
  931462130, 931304516, 931146929, 930989369, 930831835, 930674328, 930516848, 930359394,
  930201967, 930044566, 929887192, 929729845, 929572525, 929415231, 929257963, 929100723,
  928943508, 928786321, 928629160, 928472026, 928314918, 928157837, 928000782, 927843754,
  927686753, 927529778, 927372830, 927215908, 927059013, 926902144, 926745302, 926588486,
  926431697, 926274935, 926118199, 925961489, 925804806, 925648150, 925491520, 925334917,
  925178340, 925021789, 924865265, 924708768, 924552297, 924395853, 924239435, 924083043,
  923926678, 923770339, 923614027, 923457741, 923301482, 923145249, 922989043, 922832863]

/-- `LOG2LIN[896..959]`. -/
def log2lin0896 : List Nat := [
  922676709, 922520582, 922364482, 922208407, 922052360, 921896338, 921740343, 921584374,
  921428432, 921272516, 921116627, 920960764, 920804927, 920649116, 920493332, 920337575,
  920181843, 920026138, 919870460, 919714808, 919559182, 919403582, 919248009, 919092462,
  918936941, 918781447, 918625979, 918470537, 918315122, 918159733, 918004370, 917849034,
  917693723, 917538439, 917383182, 917227950, 917072745, 916917566, 916762414, 916607287,
  916452187, 916297113, 916142066, 915987044, 915832049, 915677080, 915522138, 915367221,
  915212331, 915057467, 914902629, 914747817, 914593032, 914438273, 914283540, 914128833,
  913974152, 913819497, 913664869, 913510267, 913355691, 913201141, 913046617, 912892120]

/-- `LOG2LIN[960..1023]`. -/
def log2lin0960 : List Nat := [
  912737648, 912583203, 912428784, 912274391, 912120024, 911965683, 911811368, 911657080,
  911502817, 911348581, 911194370, 911040186, 910886028, 910731896, 910577790, 910423710,
  910269657, 910115629, 909961627, 909807652, 909653702, 909499779, 909345881, 909192010,
  909038165, 908884345, 908730552, 908576785, 908423043, 908269328, 908115639, 907961976,
  907808339, 907654727, 907501142, 907347583, 907194050, 907040542, 906887061, 906733606,
  906580176, 906426773, 906273396, 906120044, 905966719, 905813419, 905660145, 905506898,
  905353676, 905200480, 905047310, 904894166, 904741048, 904587956, 904434889, 904281849,
  904128834, 903975846, 903822883, 903669946, 903517035, 903364150, 903211291, 903058458]

/-- `LOG2LIN[1024..1087]`. -/
def log2lin1024 : List Nat := [
  902905650, 902752869, 902600113, 902447383, 902294679, 902142001, 901989348, 901836722,
  901684121, 901531546, 901378997, 901226473, 901073976, 900921504, 900769058, 900616638,
  900464244, 900311875, 900159533, 900007216, 899854925, 899702659, 899550420, 899398206,
  899246018, 899093855, 898941718, 898789608, 898637522, 898485463, 898333429, 898181421,
  898029439, 897877483, 897725552, 897573647, 897421767, 897269914, 897118086, 896966283,
  896814507, 896662756, 896511031, 896359331, 896207657, 896056009, 895904386, 895752789,
  895601218, 895449672, 895298152, 895146658, 894995189, 894843746, 894692329, 894540937,
  894389571, 894238230, 894086915, 893935626, 893784362, 893633124, 893481911, 893330724]

/-- `LOG2LIN[1088..1151]`. -/
def log2lin1088 : List Nat := [
  893179562, 893028427, 892877316, 892726232, 892575172, 892424139, 892273131, 892122148,
  891971191, 891820260, 891669354, 891518474, 891367619, 891216790, 891065986, 890915208,
  890764455, 890613728, 890463026, 890312350, 890161699, 890011074, 889860474, 889709900,
  889559351, 889408828, 889258330, 889107858, 888957411, 888806989, 888656593, 888506223,
  888355878, 888205558, 888055264, 887904995, 887754752, 887604534, 887454341, 887304174,
  887154033, 887003916, 886853826, 886703760, 886553720, 886403705, 886253716, 886103752,
  885953813, 885803900, 885654012, 885504150, 885354313, 885204501, 885054715, 884904954,
  884755218, 884605508, 884455822, 884306163, 884156528, 884006919, 883857336, 883707777]

/-- `LOG2LIN[1152..1215]`. -/
def log2lin1152 : List Nat := [
  883558244, 883408736, 883259254, 883109796, 882960364, 882810958, 882661576, 882512220,
  882362889, 882213584, 882064304, 881915049, 881765819, 881616614, 881467435, 881318281,
  881169152, 881020048, 880870970, 880721917, 880572889, 880423886, 880274909, 880125957,
  879977030, 879828128, 879679251, 879530400, 879381573, 879232772, 879083996, 878935246,
  878786520, 878637820, 878489144, 878340494, 878191869, 878043270, 877894695, 877746145,
  877597621, 877449122, 877300648, 877152199, 877003775, 876855376, 876707003, 876558654,
  876410331, 876262032, 876113759, 875965511, 875817288, 875669090, 875520917, 875372769,
  875224646, 875076549, 874928476, 874780428, 874632406, 874484408, 874336436, 874188489]

/-- `LOG2LIN[1216..1279]`. -/
def log2lin1216 : List Nat := [
  874040566, 873892669, 873744797, 873596949, 873449127, 873301330, 873153558, 873005810,
  872858088, 872710391, 872562719, 872415071, 872267449, 872119852, 871972279, 871824732,
  871677210, 871529712, 871382240, 871234792, 871087370, 870939972, 870792599, 870645252,
  870497929, 870350631, 870203358, 870056110, 869908887, 869761688, 869614515, 869467367,
  869320243, 869173145, 869026071, 868879022, 868731998, 868584999, 868438025, 868291076,
  868144151, 867997252, 867850377, 867703527, 867556702, 867409902, 867263126, 867116376,
  866969650, 866822949, 866676273, 866529622, 866382996, 866236394, 866089817, 865943265,
  865796738, 865650236, 865503758, 865357305, 865210877, 865064474, 864918095, 864771742]

/-- `LOG2LIN[1280..1343]`. -/
def log2lin1280 : List Nat := [
  864625413, 864479109, 864332829, 864186574, 864040345, 863894139, 863747959, 863601803,
  863455672, 863309566, 863163484, 863017428, 862871395, 862725388, 862579405, 862433447,
  862287514, 862141606, 861995722, 861849862, 861704028, 861558218, 861412433, 861266672,
  861120936, 860975225, 860829539, 860683877, 860538240, 860392627, 860247039, 860101476,
  859955937, 859810423, 859664934, 859519469, 859374029, 859228613, 859083222, 858937856,
  858792514, 858647197, 858501904, 858356636, 858211393, 858066174, 857920979, 857775810,
  857630664, 857485544, 857340448, 857195376, 857050329, 856905307, 856760309, 856615336,
  856470387, 856325463, 856180563, 856035688, 855890837, 855746011, 855601209, 855456432]

/-- `LOG2LIN[1344..1407]`. -/
def log2lin1344 : List Nat := [
  855311679, 855166951, 855022247, 854877568, 854732913, 854588283, 854443677, 854299096,
  854154539, 854010007, 853865499, 853721015, 853576556, 853432122, 853287711, 853143326,
  852998964, 852854628, 852710315, 852566027, 852421763, 852277524, 852133309, 851989119,
  851844953, 851700812, 851556694, 851412602, 851268533, 851124489, 850980469, 850836474,
  850692503, 850548556, 850404634, 850260736, 850116863, 849973014, 849829189, 849685388,
  849541612, 849397860, 849254133, 849110430, 848966751, 848823096, 848679466, 848535860,
  848392278, 848248721, 848105188, 847961679, 847818195, 847674734, 847531298, 847387887,
  847244499, 847101136, 846957797, 846814483, 846671192, 846527926, 846384684, 846241467]

/-- `LOG2LIN[1408..1471]`. -/
def log2lin1408 : List Nat := [
  846098273, 845955104, 845811959, 845668838, 845525742, 845382669, 845239621, 845096597,
  844953598, 844810622, 844667671, 844524744, 844381841, 844238962, 844096107, 843953277,
  843810471, 843667689, 843524931, 843382197, 843239487, 843096802, 842954141, 842811504,
  842668891, 842526302, 842383737, 842241196, 842098680, 841956187, 841813719, 841671275,
  841528855, 841386459, 841244087, 841101739, 840959415, 840817116, 840674840, 840532589,
  840390361, 840248158, 840105978, 839963823, 839821692, 839679585, 839537502, 839395443,
  839253408, 839111397, 838969410, 838827447, 838685508, 838543593, 838401702, 838259836,
  838117993, 837976174, 837834379, 837692608, 837550861, 837409138, 837267440, 837125765]

/-- `LOG2LIN[1472..1535]`. -/
def log2lin1472 : List Nat := [
  836984114, 836842487, 836700884, 836559305, 836417750, 836276218, 836134711, 835993228,
  835851769, 835710333, 835568922, 835427534, 835286171, 835144831, 835003515, 834862223,
  834720956, 834579712, 834438491, 834297295, 834156123, 834014974, 833873850, 833732749,
  833591672, 833450619, 833309590, 833168585, 833027604, 832886646, 832745713, 832604803,
  832463917, 832323055, 832182217, 832041402, 831900611, 831759845, 831619102, 831478383,
  831337687, 831197016, 831056368, 830915744, 830775144, 830634568, 830494015, 830353486,
  830212981, 830072500, 829932042, 829791609, 829651199, 829510813, 829370450, 829230112,
  829089797, 828949506, 828809238, 828668994, 828528774, 828388578, 828248406, 828108257]

/-- `LOG2LIN[1536..1599]`. -/
def log2lin1536 : List Nat := [
  827968132, 827828030, 827687953, 827547899, 827407869, 827267862, 827127879, 826987920,
  826847984, 826708073, 826568184, 826428320, 826288479, 826148662, 826008868, 825869099,
  825729352, 825589630, 825449931, 825310256, 825170604, 825030976, 824891372, 824751791,
  824612234, 824472700, 824333190, 824193704, 824054241, 823914802, 823775387, 823635995,
  823496627, 823357282, 823217961, 823078663, 822939389, 822800139, 822660912, 822521708,
  822382529, 822243372, 822104240, 821965131, 821826045, 821686983, 821547944, 821408929,
  821269938, 821130970, 820992025, 820853105, 820714207, 820575333, 820436483, 820297656,
  820158852, 820020072, 819881316, 819742583, 819603873, 819465187, 819326525, 819187886]

/-- `LOG2LIN[1600..1663]`. -/
def log2lin1600 : List Nat := [
  819049270, 818910678, 818772109, 818633564, 818495042, 818356544, 818218069, 818079617,
  817941189, 817802784, 817664403, 817526045, 817387711, 817249399, 817111112, 816972848,
  816834607, 816696389, 816558195, 816420025, 816281877, 816143753, 816005653, 815867576,
  815729522, 815591491, 815453484, 815315500, 815177540, 815039603, 814901689, 814763799,
  814625932, 814488088, 814350268, 814212471, 814074697, 813936946, 813799219, 813661515,
  813523835, 813386178, 813248544, 813110933, 812973346, 812835782, 812698241, 812560723,
  812423229, 812285758, 812148310, 812010886, 811873484, 811736107, 811598752, 811461420,
  811324112, 811186827, 811049565, 810912327, 810775111, 810637919, 810500750, 810363605]

/-- `LOG2LIN[1664..1727]`. -/
def log2lin1664 : List Nat := [
  810226482, 810089383, 809952307, 809815254, 809678224, 809541218, 809404234, 809267274,
  809130337, 808993423, 808856533, 808719665, 808582821, 808446000, 808309202, 808172427,
  808035675, 807898947, 807762241, 807625559, 807488900, 807352264, 807215651, 807079061,
  806942494, 806805950, 806669430, 806532933, 806396458, 806260007, 806123579, 805987174,
  805850792, 805714433, 805578097, 805441785, 805305495, 805169228, 805032985, 804896764,
  804760567, 804624392, 804488241, 804352113, 804216007, 804079925, 803943866, 803807830,
  803671817, 803535826, 803399859, 803263915, 803127994, 802992096, 802856221, 802720369,
  802584539, 802448733, 802312950, 802177190, 802041453, 801905738, 801770047, 801634379]

/-- `LOG2LIN[1728..1791]`. -/
def log2lin1728 : List Nat := [
  801498733, 801363111, 801227511, 801091935, 800956381, 800820850, 800685343, 800549858,
  800414396, 800278957, 800143541, 800008148, 799872777, 799737430, 799602106, 799466804,
  799331525, 799196270, 799061037, 798925827, 798790640, 798655476, 798520334, 798385216,
  798250120, 798115047, 797979998, 797844970, 797709966, 797574985, 797440026, 797305091,
  797170178, 797035288, 796900421, 796765576, 796630755, 796495956, 796361180, 796226427,
  796091697, 795956989, 795822304, 795687642, 795553003, 795418387, 795283793, 795149222,
  795014674, 794880149, 794745647, 794611167, 794476710, 794342276, 794207864, 794073475,
  793939109, 793804766, 793670445, 793536148, 793401873, 793267620, 793133391, 792999184]

/-- `LOG2LIN[1792..1855]`. -/
def log2lin1792 : List Nat := [
  792864999, 792730838, 792596699, 792462583, 792328489, 792194419, 792060371, 791926345,
  791792342, 791658362, 791524405, 791390470, 791256558, 791122669, 790988802, 790854958,
  790721137, 790587338, 790453562, 790319808, 790186078, 790052369, 789918684, 789785021,
  789651380, 789517763, 789384168, 789250595, 789117045, 788983518, 788850013, 788716531,
  788583071, 788449634, 788316220, 788182828, 788049459, 787916112, 787782788, 787649486,
  787516207, 787382951, 787249717, 787116506, 786983317, 786850151, 786717007, 786583886,
  786450787, 786317711, 786184657, 786051626, 785918617, 785785631, 785652667, 785519726,
  785386808, 785253912, 785121038, 784988187, 784855358, 784722552, 784589768, 784457007]

/-- `LOG2LIN[1856..1919]`. -/
def log2lin1856 : List Nat := [
  784324268, 784191552, 784058858, 783926186, 783793537, 783660911, 783528307, 783395725,
  783263166, 783130629, 782998115, 782865623, 782733153, 782600706, 782468281, 782335879,
  782203499, 782071142, 781938807, 781806494, 781674204, 781541936, 781409690, 781277467,
  781145266, 781013088, 780880932, 780748798, 780616687, 780484598, 780352531, 780220487,
  780088465, 779956465, 779824488, 779692533, 779560600, 779428690, 779296802, 779164936,
  779033093, 778901272, 778769473, 778637697, 778505943, 778374211, 778242502, 778110814,
  777979149, 777847507, 777715886, 777584288, 777452712, 777321159, 777189627, 777058118,
  776926631, 776795167, 776663724, 776532304, 776400906, 776269531, 776138177, 776006846]

/-- `LOG2LIN[1920..1983]`. -/
def log2lin1920 : List Nat := [
  775875537, 775744251, 775612986, 775481744, 775350524, 775219326, 775088150, 774956997,
  774825865, 774694756, 774563669, 774432605, 774301562, 774170542, 774039543, 773908567,
  773777613, 773646682, 773515772, 773384885, 773254019, 773123176, 772992355, 772861556,
  772730780, 772600025, 772469293, 772338582, 772207894, 772077228, 771946584, 771815962,
  771685362, 771554784, 771424229, 771293695, 771163184, 771032695, 770902227, 770771782,
  770641359, 770510958, 770380579, 770250222, 770119887, 769989574, 769859284, 769729015,
  769598768, 769468544, 769338341, 769208160, 769078002, 768947865, 768817751, 768687658,
  768557588, 768427539, 768297513, 768167509, 768037526, 767907566, 767777627, 767647711]

/-- `LOG2LIN[1984..2047]`. -/
def log2lin1984 : List Nat := [
  767517816, 767387944, 767258093, 767128265, 766998458, 766868673, 766738911, 766609170,
  766479451, 766349755, 766220080, 766090427, 765960796, 765831187, 765701600, 765572034,
  765442491, 765312970, 765183470, 765053993, 764924537, 764795104, 764665692, 764536302,
  764406934, 764277588, 764148264, 764018961, 763889681, 763760422, 763631185, 763501971,
  763372778, 763243606, 763114457, 762985330, 762856224, 762727141, 762598079, 762469039,
  762340020, 762211024, 762082049, 761953097, 761824166, 761695257, 761566370, 761437504,
  761308660, 761179839, 761051039, 760922260, 760793504, 760664769, 760536056, 760407365,
  760278696, 760150048, 760021422, 759892818, 759764236, 759635676, 759507137, 759378620]

/-- `LOG2LIN[2048..2111]`. -/
def log2lin2048 : List Nat := [
  759250124, 759121651, 758993199, 758864769, 758736361, 758607974, 758479609, 758351266,
  758222945, 758094645, 757966367, 757838111, 757709876, 757581663, 757453472, 757325303,
  757197155, 757069029, 756940924, 756812841, 756684780, 756556741, 756428723, 756300727,
  756172752, 756044800, 755916869, 755788959, 755661071, 755533205, 755405360, 755277537,
  755149736, 755021956, 754894198, 754766462, 754638747, 754511054, 754383382, 754255732,
  754128104, 754000497, 753872912, 753745348, 753617806, 753490286, 753362787, 753235309,
  753107854, 752980419, 752853007, 752725616, 752598246, 752470898, 752343572, 752216267,
  752088984, 751961722, 751834482, 751707263, 751580066, 751452890, 751325736, 751198603]

/-- `LOG2LIN[2112..2175]`. -/
def log2lin2112 : List Nat := [
  751071492, 750944403, 750817334, 750690288, 750563263, 750436259, 750309277, 750182316,
  750055377, 749928460, 749801563, 749674689, 749547835, 749421004, 749294193, 749167404,
  749040637, 748913891, 748787166, 748660463, 748533782, 748407122, 748280483, 748153865,
  748027270, 747900695, 747774142, 747647610, 747521100, 747394611, 747268144, 747141698,
  747015273, 746888870, 746762488, 746636128, 746509788, 746383471, 746257174, 746130899,
  746004646, 745878414, 745752203, 745626013, 745499845, 745373698, 745247573, 745121468,
  744995386, 744869324, 744743284, 744617265, 744491268, 744365292, 744239337, 744113403,
  743987491, 743861600, 743735731, 743609882, 743484055, 743358249, 743232465, 743106702]

/-- `LOG2LIN[2176..2239]`. -/
def log2lin2176 : List Nat := [
  742980960, 742855239, 742729540, 742603862, 742478205, 742352570, 742226955, 742101362,
  741975791, 741850240, 741724711, 741599203, 741473716, 741348250, 741222806, 741097383,
  740971981, 740846600, 740721241, 740595903, 740470586, 740345290, 740220015, 740094762,
  739969530, 739844319, 739719129, 739593960, 739468813, 739343686, 739218581, 739093497,
  738968434, 738843393, 738718372, 738593373, 738468395, 738343438, 738218502, 738093587,
  737968694, 737843821, 737718970, 737594140, 737469330, 737344542, 737219776, 737095030,
  736970305, 736845602, 736720919, 736596258, 736471618, 736346999, 736222400, 736097823,
  735973268, 735848733, 735724219, 735599726, 735475255, 735350804, 735226375, 735101966]

/-- `LOG2LIN[2240..2303]`. -/
def log2lin2240 : List Nat := [
  734977579, 734853213, 734728867, 734604543, 734480240, 734355958, 734231696, 734107456,
  733983237, 733859039, 733734862, 733610706, 733486571, 733362457, 733238364, 733114292,
  732990241, 732866211, 732742202, 732618213, 732494246, 732370300, 732246375, 732122471,
  731998588, 731874725, 731750884, 731627064, 731503264, 731379486, 731255728, 731131992,
  731008276, 730884582, 730760908, 730637255, 730513623, 730390012, 730266422, 730142853,
  730019305, 729895777, 729772271, 729648785, 729525321, 729401877, 729278454, 729155052,
  729031671, 728908311, 728784971, 728661653, 728538355, 728415078, 728291822, 728168587,
  728045373, 727922180, 727799007, 727675856, 727552725, 727429615, 727306526, 727183458]

/-- `LOG2LIN[2304..2367]`. -/
def log2lin2304 : List Nat := [
  727060410, 726937383, 726814378, 726691393, 726568428, 726445485, 726322562, 726199660,
  726076779, 725953919, 725831080, 725708261, 725585463, 725462686, 725339930, 725217194,
  725094479, 724971785, 724849112, 724726460, 724603828, 724481217, 724358627, 724236057,
  724113509, 723990980, 723868473, 723745987, 723623521, 723501076, 723378651, 723256248,
  723133865, 723011502, 722889161, 722766840, 722644540, 722522260, 722400002, 722277764,
  722155546, 722033349, 721911173, 721789018, 721666883, 721544769, 721422676, 721300603,
  721178551, 721056520, 720934509, 720812519, 720690550, 720568601, 720446673, 720324765,
  720202878, 720081012, 719959166, 719837341, 719715537, 719593753, 719471990, 719350247]

/-- `LOG2LIN[2368..2431]`. -/
def log2lin2368 : List Nat := [
  719228525, 719106823, 718985143, 718863482, 718741843, 718620224, 718498625, 718377047,
  718255490, 718133953, 718012437, 717890941, 717769466, 717648012, 717526578, 717405164,
  717283771, 717162399, 717041047, 716919716, 716798405, 716677115, 716555845, 716434596,
  716313367, 716192159, 716070972, 715949804, 715828658, 715707532, 715586426, 715465341,
  715344276, 715223232, 715102208, 714981205, 714860222, 714739260, 714618318, 714497397,
  714376496, 714255616, 714134756, 714013916, 713893097, 713772299, 713651520, 713530763,
  713410025, 713289309, 713168612, 713047936, 712927280, 712806645, 712686031, 712565436,
  712444862, 712324309, 712203775, 712083263, 711962770, 711842298, 711721847, 711601416]

/-- `LOG2LIN[2432..2495]`. -/
def log2lin2432 : List Nat := [
  711481005, 711360614, 711240244, 711119894, 710999565, 710879256, 710758967, 710638699,
  710518451, 710398224, 710278016, 710157830, 710037663, 709917517, 709797391, 709677285,
  709557200, 709437135, 709317090, 709197066, 709077062, 708957078, 708837115, 708717172,
  708597249, 708477347, 708357464, 708237603, 708117761, 707997940, 707878138, 707758358,
  707638597, 707518857, 707399137, 707279437, 707159758, 707040098, 706920459, 706800841,
  706681242, 706561664, 706442106, 706322568, 706203050, 706083553, 705964076, 705844619,
  705725182, 705605766, 705486369, 705366993, 705247637, 705128302, 705008986, 704889691,
  704770416, 704651161, 704531926, 704412711, 704293517, 704174343, 704055188, 703936054]

/-- `LOG2LIN[2496..2559]`. -/
def log2lin2496 : List Nat := [
  703816941, 703697847, 703578774, 703459720, 703340687, 703221674, 703102681, 702983708,
  702864756, 702745823, 702626911, 702508019, 702389147, 702270295, 702151463, 702032651,
  701913859, 701795088, 701676336, 701557605, 701438893, 701320202, 701201531, 701082880,
  700964249, 700845638, 700727047, 700608476, 700489926, 700371395, 700252885, 700134394,
  700015923, 699897473, 699779043, 699660632, 699542242, 699423872, 699305521, 699187191,
  699068881, 698950591, 698832321, 698714070, 698595840, 698477630, 698359440, 698241270,
  698123120, 698004990, 697886879, 697768789, 697650719, 697532669, 697414638, 697296628,
  697178638, 697060668, 696942717, 696824787, 696706876, 696588986, 696471115, 696353265]

/-- `LOG2LIN[2560..2623]`. -/
def log2lin2560 : List Nat := [
  696235434, 696117623, 695999832, 695882061, 695764311, 695646580, 695528868, 695411177,
  695293506, 695175855, 695058223, 694940612, 694823020, 694705448, 694587896, 694470364,
  694352852, 694235360, 694117888, 694000435, 693883003, 693765590, 693648197, 693530824,
  693413471, 693296138, 693178825, 693061531, 692944258, 692827004, 692709770, 692592556,
  692475361, 692358187, 692241032, 692123897, 692006782, 691889687, 691772612, 691655556,
  691538520, 691421504, 691304508, 691187532, 691070575, 690953638, 690836721, 690719824,
  690602947, 690486089, 690369251, 690252433, 690135635, 690018856, 689902097, 689785358,
  689668639, 689551939, 689435259, 689318599, 689201959, 689085338, 688968738, 688852156]

/-- `LOG2LIN[2624..2687]`. -/
def log2lin2624 : List Nat := [
  688735595, 688619053, 688502531, 688386029, 688269547, 688153084, 688036641, 687920217,
  687803814, 687687429, 687571065, 687454721, 687338396, 687222090, 687105805, 686989539,
  686873293, 686757066, 686640859, 686524672, 686408504, 686292356, 686176228, 686060120,
  685944031, 685827961, 685711912, 685595882, 685479871, 685363880, 685247909, 685131958,
  685016026, 684900113, 684784221, 684668348, 684552494, 684436660, 684320846, 684205051,
  684089276, 683973521, 683857785, 683742069, 683626372, 683510695, 683395037, 683279399,
  683163781, 683048182, 682932603, 682817043, 682701503, 682585982, 682470481, 682354999,
  682239537, 682124095, 682008672, 681893268, 681777885, 681662520, 681547175, 681431850]

/-- `LOG2LIN[2688..2751]`. -/
def log2lin2688 : List Nat := [
  681316544, 681201258, 681085991, 680970744, 680855516, 680740308, 680625119, 680509950,
  680394800, 680279670, 680164559, 680049467, 679934395, 679819343, 679704310, 679589297,
  679474303, 679359328, 679244373, 679129437, 679014521, 678899624, 678784747, 678669889,
  678555051, 678440231, 678325432, 678210652, 678095891, 677981150, 677866428, 677751725,
  677637042, 677522378, 677407734, 677293109, 677178504, 677063918, 676949351, 676834804,
  676720276, 676605767, 676491278, 676376808, 676262358, 676147927, 676033515, 675919123,
  675804750, 675690396, 675576062, 675461747, 675347451, 675233175, 675118918, 675004680,
  674890462, 674776263, 674662083, 674547923, 674433782, 674319661, 674205558, 674091475]

/-- `LOG2LIN[2752..2815]`. -/
def log2lin2752 : List Nat := [
  673977411, 673863367, 673749342, 673635336, 673521349, 673407382, 673293434, 673179506,
  673065596, 672951706, 672837835, 672723983, 672610151, 672496338, 672382544, 672268770,
  672155014, 672041278, 671927561, 671813864, 671700185, 671586526, 671472887, 671359266,
  671245664, 671132082, 671018519, 670904976, 670791451, 670677946, 670564460, 670450993,
  670337545, 670224116, 670110707, 669997317, 669883946, 669770594, 669657261, 669543948,
  669430654, 669317379, 669204123, 669090886, 668977669, 668864470, 668751291, 668638131,
  668524990, 668411868, 668298765, 668185682, 668072617, 667959572, 667846546, 667733539,
  667620551, 667507582, 667394632, 667281702, 667168790, 667055898, 666943025, 666830171]

/-- `LOG2LIN[2816..2879]`. -/
def log2lin2816 : List Nat := [
  666717336, 666604520, 666491723, 666378945, 666266186, 666153447, 666040726, 665928025,
  665815342, 665702679, 665590035, 665477410, 665364803, 665252216, 665139648, 665027099,
  664914569, 664802058, 664689567, 664577094, 664464640, 664352205, 664239789, 664127393,
  664015015, 663902656, 663790317, 663677996, 663565694, 663453412, 663341148, 663228903,
  663116678, 663004471, 662892283, 662780115, 662667965, 662555834, 662443722, 662331629,
  662219556, 662107501, 661995465, 661883448, 661771450, 661659471, 661547511, 661435570,
  661323647, 661211744, 661099860, 660987994, 660876148, 660764320, 660652512, 660540722,
  660428951, 660317199, 660205466, 660093752, 659982057, 659870381, 659758723, 659647085]

/-- `LOG2LIN[2880..2943]`. -/
def log2lin2880 : List Nat := [
  659535465, 659423865, 659312283, 659200720, 659089176, 658977651, 658866144, 658754657,
  658643188, 658531739, 658420308, 658308896, 658197503, 658086128, 657974773, 657863436,
  657752118, 657640819, 657529539, 657418278, 657307036, 657195812, 657084607, 656973421,
  656862254, 656751106, 656639976, 656528865, 656417773, 656306700, 656195646, 656084610,
  655973594, 655862596, 655751616, 655640656, 655529714, 655418791, 655307887, 655197002,
  655086135, 654975288, 654864458, 654753648, 654642857, 654532084, 654421330, 654310594,
  654199878, 654089180, 653978501, 653867840, 653757199, 653646576, 653535971, 653425386,
  653314819, 653204271, 653093742, 652983231, 652872739, 652762266, 652651811, 652541375]

/-- `LOG2LIN[2944..3007]`. -/
def log2lin2944 : List Nat := [
  652430958, 652320559, 652210180, 652099818, 651989476, 651879152, 651768847, 651658560,
  651548293, 651438043, 651327813, 651217601, 651107408, 650997233, 650887077, 650776940,
  650666821, 650556721, 650446640, 650336577, 650226533, 650116507, 650006500, 649896512,
  649786542, 649676591, 649566659, 649456745, 649346850, 649236973, 649127115, 649017276,
  648907455, 648797652, 648687869, 648578103, 648468357, 648358629, 648248919, 648139228,
  648029556, 647919902, 647810267, 647700650, 647591052, 647481473, 647371912, 647262369,
  647152845, 647043340, 646933853, 646824385, 646714935, 646605503, 646496091, 646386696,
  646277321, 646167963, 646058624, 645949304, 645840002, 645730719, 645621454, 645512208]

/-- `LOG2LIN[3008..3071]`. -/
def log2lin3008 : List Nat := [
  645402980, 645293771, 645184580, 645075408, 644966254, 644857118, 644748001, 644638903,
  644529823, 644420761, 644311718, 644202694, 644093687, 643984700, 643875730, 643766779,
  643657847, 643548933, 643440037, 643331160, 643222301, 643113461, 643004639, 642895836,
  642787050, 642678284, 642569535, 642460806, 642352094, 642243401, 642134726, 642026070,
  641917432, 641808813, 641700211, 641591629, 641483064, 641374518, 641265991, 641157481,
  641048990, 640940518, 640832063, 640723628, 640615210, 640506811, 640398430, 640290068,
  640181723, 640073398, 639965090, 639856801, 639748530, 639640277, 639532043, 639423827,
  639315630, 639207450, 639099290, 638991147, 638883022, 638774916, 638666829, 638558759]

/-- `LOG2LIN[3072..3135]`. -/
def log2lin3072 : List Nat := [
  638450708, 638342675, 638234660, 638126664, 638018686, 637910726, 637802784, 637694861,
  637586956, 637479069, 637371201, 637263351, 637155519, 637047705, 636939909, 636832132,
  636724373, 636616632, 636508910, 636401205, 636293519, 636185851, 636078202, 635970570,
  635862957, 635755362, 635647785, 635540226, 635432686, 635325164, 635217660, 635110174,
  635002706, 634895256, 634787825, 634680412, 634573017, 634465640, 634358282, 634250941,
  634143619, 634036315, 633929029, 633821761, 633714511, 633607280, 633500067, 633392871,
  633285694, 633178535, 633071395, 632964272, 632857167, 632750081, 632643013, 632535962,
  632428930, 632321916, 632214920, 632107943, 632000983, 631894041, 631787118, 631680213]

/-- `LOG2LIN[3136..3199]`. -/
def log2lin3136 : List Nat := [
  631573325, 631466456, 631359605, 631252772, 631145957, 631039160, 630932381, 630825621,
  630718878, 630612153, 630505447, 630398758, 630292088, 630185435, 630078801, 629972185,
  629865586, 629759006, 629652444, 629545900, 629439374, 629332866, 629226376, 629119903,
  629013449, 628907013, 628800595, 628694195, 628587813, 628481449, 628375103, 628268775,
  628162465, 628056173, 627949899, 627843643, 627737405, 627631185, 627524983, 627418799,
  627312632, 627206484, 627100354, 626994241, 626888147, 626782071, 626676012, 626569972,
  626463949, 626357944, 626251958, 626145989, 626040038, 625934105, 625828190, 625722293,
  625616414, 625510553, 625404710, 625298884, 625193077, 625087287, 624981515, 624875762]

/-- `LOG2LIN[3200..3263]`. -/
def log2lin3200 : List Nat := [
  624770026, 624664308, 624558608, 624452925, 624347261, 624241615, 624135986, 624030375,
  623924782, 623819207, 623713650, 623608111, 623502590, 623397086, 623291600, 623186133,
  623080683, 622975250, 622869836, 622764440, 622659061, 622553700, 622448357, 622343032,
  622237725, 622132435, 622027164, 621921910, 621816674, 621711455, 621606255, 621501072,
  621395907, 621290760, 621185631, 621080520, 620975426, 620870350, 620765292, 620660251,
  620555229, 620450224, 620345237, 620240268, 620135316, 620030382, 619925466, 619820568,
  619715688, 619610825, 619505980, 619401153, 619296343, 619191551, 619086777, 618982021,
  618877282, 618772561, 618667858, 618563173, 618458505, 618353855, 618249223, 618144608]

/-- `LOG2LIN[3264..3327]`. -/
def log2lin3264 : List Nat := [
  618040011, 617935432, 617830871, 617726327, 617621801, 617517292, 617412801, 617308328,
  617203873, 617099435, 616995015, 616890613, 616786228, 616681861, 616577512, 616473180,
  616368866, 616264569, 616160291, 616056029, 615951786, 615847560, 615743352, 615639161,
  615534988, 615430833, 615326695, 615222575, 615118473, 615014388, 614910321, 614806271,
  614702239, 614598224, 614494228, 614390248, 614286287, 614182343, 614078416, 613974507,
  613870616, 613766742, 613662886, 613559048, 613455227, 613351423, 613247638, 613143869,
  613040119, 612936385, 612832670, 612728972, 612625291, 612521628, 612417983, 612314355,
  612210744, 612107152, 612003576, 611900019, 611796478, 611692956, 611589450, 611485963]

/-- `LOG2LIN[3328..3391]`. -/
def log2lin3328 : List Nat := [
  611382492, 611279040, 611175605, 611072187, 610968787, 610865404, 610762039, 610658691,
  610555361, 610452048, 610348753, 610245475, 610142215, 610038972, 609935747, 609832539,
  609729348, 609626175, 609523020, 609419882, 609316761, 609213658, 609110573, 609007504,
  608904453, 608801420, 608698404, 608595406, 608492425, 608389461, 608286515, 608183586,
  608080674, 607977781, 607874904, 607772045, 607669203, 607566379, 607463572, 607360782,
  607258010, 607155255, 607052518, 606949798, 606847095, 606744410, 606641742, 606539092,
  606436458, 606333843, 606231244, 606128663, 606026100, 605923553, 605821024, 605718513,
  605616018, 605513541, 605411082, 605308640, 605206215, 605103807, 605001417, 604899044]

/-- `LOG2LIN[3392..3455]`. -/
def log2lin3392 : List Nat := [
  604796688, 604694350, 604592029, 604489725, 604387439, 604285170, 604182918, 604080684,
  603978467, 603876267, 603774084, 603671919, 603569771, 603467640, 603365527, 603263431,
  603161352, 603059290, 602957246, 602855219, 602753209, 602651217, 602549241, 602447283,
  602345343, 602243419, 602141513, 602039624, 601937752, 601835898, 601734060, 601632240,
  601530437, 601428652, 601326883, 601225132, 601123398, 601021682, 600919982, 600818300,
  600716635, 600614987, 600513356, 600411743, 600310146, 600208567, 600107005, 600005460,
  599903933, 599802423, 599700929, 599599453, 599497994, 599396553, 599295128, 599193721,
  599092331, 598990958, 598889602, 598788263, 598686941, 598585637, 598484350, 598383079]

/-- `LOG2LIN[3456..3519]`. -/
def log2lin3456 : List Nat := [
  598281826, 598180590, 598079372, 597978170, 597876985, 597775818, 597674668, 597573535,
  597472419, 597371320, 597270238, 597169173, 597068125, 596967095, 596866081, 596765085,
  596664106, 596563144, 596462199, 596361271, 596260360, 596159466, 596058589, 595957729,
  595856887, 595756061, 595655253, 595554461, 595453687, 595352929, 595252189, 595151466,
  595050760, 594950070, 594849398, 594748743, 594648105, 594547484, 594446880, 594346293,
  594245723, 594145170, 594044634, 593944115, 593843613, 593743128, 593642660, 593542210,
  593441776, 593341359, 593240959, 593140576, 593040210, 592939861, 592839529, 592739214,
  592638916, 592538635, 592438371, 592338124, 592237893, 592137680, 592037484, 591937305]

/-- `LOG2LIN[3520..3583]`. -/
def log2lin3520 : List Nat := [
  591837142, 591736997, 591636869, 591536757, 591436662, 591336585, 591236524, 591136480,
  591036454, 590936444, 590836451, 590736475, 590636515, 590536573, 590436648, 590336739,
  590236848, 590136973, 590037116, 589937275, 589837451, 589737644, 589637854, 589538080,
  589438324, 589338585, 589238862, 589139156, 589039467, 588939795, 588840140, 588740502,
  588640881, 588541276, 588441688, 588342118, 588242564, 588143026, 588043506, 587944003,
  587844516, 587745046, 587645593, 587546157, 587446738, 587347335, 587247950, 587148581,
  587049229, 586949893, 586850575, 586751273, 586651989, 586552721, 586453469, 586354235,
  586255017, 586155816, 586056632, 585957465, 585858315, 585759181, 585660064, 585560964]

/-- `LOG2LIN[3584..3647]`. -/
def log2lin3584 : List Nat := [
  585461880, 585362814, 585263764, 585164731, 585065715, 584966715, 584867732, 584768766,
  584669817, 584570884, 584471968, 584373069, 584274187, 584175321, 584076472, 583977640,
  583878824, 583780026, 583681244, 583582478, 583483730, 583384998, 583286283, 583187584,
  583088902, 582990237, 582891589, 582792957, 582694342, 582595744, 582497162, 582398597,
  582300049, 582201517, 582103002, 582004504, 581906022, 581807557, 581709109, 581610678,
  581512263, 581413864, 581315483, 581217118, 581118769, 581020437, 580922122, 580823824,
  580725542, 580627277, 580529028, 580430796, 580332581, 580234382, 580136200, 580038035,
  579939886, 579841754, 579743638, 579645539, 579547457, 579449391, 579351342, 579253309]

/-- `LOG2LIN[3648..3711]`. -/
def log2lin3648 : List Nat := [
  579155293, 579057293, 578959310, 578861344, 578763394, 578665461, 578567545, 578469645,
  578371761, 578273894, 578176044, 578078210, 577980393, 577882592, 577784808, 577687040,
  577589289, 577491555, 577393837, 577296135, 577198451, 577100782, 577003130, 576905495,
  576807876, 576710274, 576612688, 576515119, 576417566, 576320030, 576222510, 576125007,
  576027520, 575930050, 575832596, 575735159, 575637738, 575540334, 575442946, 575345575,
  575248220, 575150882, 575053560, 574956254, 574858965, 574761693, 574664437, 574567197,
  574469974, 574372768, 574275577, 574178404, 574081246, 573984105, 573886981, 573789873,
  573692781, 573595706, 573498647, 573401605, 573304579, 573207570, 573110577, 573013600]

/-- `LOG2LIN[3712..3775]`. -/
def log2lin3712 : List Nat := [
  572916640, 572819696, 572722768, 572625857, 572528963, 572432084, 572335223, 572238377,
  572141548, 572044735, 571947939, 571851159, 571754396, 571657648, 571560918, 571464203,
  571367505, 571270823, 571174158, 571077509, 570980877, 570884260, 570787660, 570691077,
  570594509, 570497959, 570401424, 570304906, 570208404, 570111918, 570015449, 569918996,
  569822559, 569726139, 569629735, 569533348, 569436976, 569340621, 569244282, 569147960,
  569051654, 568955364, 568859091, 568762833, 568666592, 568570368, 568474159, 568377967,
  568281791, 568185632, 568089488, 567993361, 567897251, 567801156, 567705078, 567609016,
  567512970, 567416941, 567320927, 567224930, 567128950, 567032985, 566937037, 566841105]

/-- `LOG2LIN[3776..3839]`. -/
def log2lin3776 : List Nat := [
  566745189, 566649290, 566553406, 566457539, 566361688, 566265854, 566170035, 566074233,
  565978447, 565882677, 565786923, 565691186, 565595465, 565499760, 565404071, 565308398,
  565212742, 565117102, 565021478, 564925870, 564830278, 564734702, 564639143, 564543600,
  564448073, 564352562, 564257067, 564161589, 564066126, 563970680, 563875250, 563779836,
  563684438, 563589057, 563493691, 563398342, 563303009, 563207692, 563112391, 563017106,
  562921837, 562826584, 562731348, 562636128, 562540923, 562445735, 562350563, 562255407,
  562160267, 562065144, 561970036, 561874944, 561779869, 561684810, 561589766, 561494739,
  561399728, 561304733, 561209754, 561114791, 561019844, 560924913, 560829999, 560735100]

/-- `LOG2LIN[3840..3903]`. -/
def log2lin3840 : List Nat := [
  560640217, 560545351, 560450500, 560355666, 560260848, 560166045, 560071259, 559976489,
  559881735, 559786996, 559692274, 559597568, 559502878, 559408204, 559313546, 559218904,
  559124278, 559029668, 558935074, 558840496, 558745934, 558651388, 558556858, 558462344,
  558367846, 558273364, 558178898, 558084448, 557990014, 557895595, 557801193, 557706807,
  557612437, 557518083, 557423745, 557329422, 557235116, 557140826, 557046551, 556952293,
  556858050, 556763824, 556669613, 556575419, 556481240, 556387077, 556292930, 556198799,
  556104684, 556010585, 555916502, 555822435, 555728384, 555634348, 555540329, 555446325,
  555352337, 555258366, 555164410, 555070470, 554976546, 554882638, 554788745, 554694869]

/-- `LOG2LIN[3904..3967]`. -/
def log2lin3904 : List Nat := [
  554601008, 554507164, 554413335, 554319522, 554225725, 554131944, 554038179, 553944429,
  553850696, 553756978, 553663276, 553569590, 553475920, 553382266, 553288628, 553195005,
  553101398, 553007808, 552914232, 552820673, 552727130, 552633602, 552540091, 552446595,
  552353115, 552259650, 552166202, 552072769, 551979352, 551885951, 551792566, 551699197,
  551605843, 551512505, 551419183, 551325877, 551232587, 551139312, 551046053, 550952810,
  550859583, 550766371, 550673175, 550579995, 550486831, 550393683, 550300550, 550207433,
  550114332, 550021247, 549928177, 549835123, 549742085, 549649062, 549556056, 549463065,
  549370089, 549277130, 549184186, 549091258, 548998346, 548905449, 548812568, 548719703]

/-- `LOG2LIN[3968..4031]`. -/
def log2lin3968 : List Nat := [
  548626854, 548534020, 548441202, 548348400, 548255613, 548162842, 548070087, 547977347,
  547884623, 547791915, 547699223, 547606546, 547513885, 547421240, 547328610, 547235996,
  547143397, 547050815, 546958248, 546865696, 546773161, 546680640, 546588136, 546495647,
  546403174, 546310717, 546218275, 546125849, 546033438, 545941043, 545848664, 545756300,
  545663952, 545571620, 545479303, 545387002, 545294717, 545202447, 545110192, 545017954,
  544925731, 544833523, 544741331, 544649155, 544556994, 544464849, 544372720, 544280606,
  544188508, 544096425, 544004358, 543912306, 543820270, 543728250, 543636245, 543544256,
  543452282, 543360324, 543268381, 543176454, 543084543, 542992647, 542900767, 542808902]

/-- `LOG2LIN[4032..4095]`. -/
def log2lin4032 : List Nat := [
  542717052, 542625219, 542533401, 542441598, 542349811, 542258039, 542166283, 542074543,
  541982818, 541891108, 541799414, 541707736, 541616073, 541524425, 541432793, 541341177,
  541249576, 541157991, 541066421, 540974866, 540883327, 540791804, 540700296, 540608803,
  540517326, 540425865, 540334419, 540242988, 540151573, 540060174, 539968789, 539877421,
  539786067, 539694730, 539603407, 539512100, 539420809, 539329533, 539238273, 539147027,
  539055798, 538964584, 538873385, 538782202, 538691034, 538599881, 538508744, 538417622,
  538326516, 538235425, 538144350, 538053290, 537962245, 537871216, 537780203, 537689204,
  537598221, 537507254, 537416301, 537325365, 537234443, 537143537, 537052647, 536961771]

/-- The pieces of `LOG2LIN` in index order. -/
def log2linPieces : List (List Nat) := [
  log2lin0000, log2lin0064, log2lin0128, log2lin0192, log2lin0256, log2lin0320, log2lin0384, log2lin0448,
  log2lin0512, log2lin0576, log2lin0640, log2lin0704, log2lin0768, log2lin0832, log2lin0896, log2lin0960,
  log2lin1024, log2lin1088, log2lin1152, log2lin1216, log2lin1280, log2lin1344, log2lin1408, log2lin1472,
  log2lin1536, log2lin1600, log2lin1664, log2lin1728, log2lin1792, log2lin1856, log2lin1920, log2lin1984,
  log2lin2048, log2lin2112, log2lin2176, log2lin2240, log2lin2304, log2lin2368, log2lin2432, log2lin2496,
  log2lin2560, log2lin2624, log2lin2688, log2lin2752, log2lin2816, log2lin2880, log2lin2944, log2lin3008,
  log2lin3072, log2lin3136, log2lin3200, log2lin3264, log2lin3328, log2lin3392, log2lin3456, log2lin3520,
  log2lin3584, log2lin3648, log2lin3712, log2lin3776, log2lin3840, log2lin3904, log2lin3968, log2lin4032]

/-- `LIN2LOG[0..63]`. -/
def lin2log000 : List Nat := [
  122880, 28672, 24576, 22179, 20480, 19161, 18083, 17173,
  16384, 15687, 15065, 14502, 13987, 13514, 13077, 12669,
  12288, 11929, 11591, 11272, 10969, 10681, 10406, 10143,
  9891, 9650, 9418, 9195, 8981, 8773, 8573, 8379,
  8192, 8010, 7833, 7662, 7495, 7334, 7176, 7022,
  6873, 6727, 6585, 6446, 6310, 6177, 6047, 5920,
  5795, 5674, 5554, 5437, 5322, 5210, 5099, 4991,
  4885, 4780, 4677, 4576, 4477, 4379, 4283, 4189]

/-- `LIN2LOG[64..127]`. -/
def lin2log064 : List Nat := [
  4096, 4004, 3914, 3825, 3737, 3651, 3566, 3482,
  3399, 3318, 3238, 3158, 3080, 3003, 2926, 2851,
  2777, 2703, 2631, 2559, 2489, 2419, 2350, 2281,
  2214, 2147, 2081, 2016, 1951, 1887, 1824, 1761,
  1699, 1638, 1578, 1518, 1458, 1399, 1341, 1284,
  1226, 1170, 1114, 1058, 1003, 949, 895, 842,
  789, 736, 684, 632, 581, 530, 480, 430,
  381, 332, 283, 235, 187, 140, 93, 46]

/-- The 7-bit linear table `LIN2LOG[0..127]` (R101). -/
def lin2logTable : List Nat := lin2log000 ++ lin2log064

end Sys2Proof.Machine
end

