-- ==== Sys2Proof/Machine/Lvu.lean ====
section
/-! DEFINITION. The logarithmic volume unit (spec/41_log_volume_unit.md R100 to R104). A log value is an attenuation
in units of 1/4096 octave. -/

namespace Sys2Proof.Machine

/-- `LOG2LIN[i]` (R100). -/
def log2lin (i : BitVec 12) : Nat := (log2linPieces.getD (i.toNat / 64) []).getD (i.toNat % 64) 0

/-- `LOG_ZERO = 30 x 4096`: every log value from here on decodes to 0. -/
def logZero : Nat := 122880

/-- `LVU.LinearToLog(x) = LIN2LOG[x]`, for `0 <= x <= 127` (R102): the argument's type is the domain (log 12). -/
def linearToLog (x : BitVec 7) : Nat := lin2logTable.getD x.toNat 0

/-- `LVU.LogToLinear(l, sft)` for a natural `l` and `sft >= -23` (R103), where the total shift is never negative
(log 12). -/
def logToLinear (l : Nat) (sft : Int) : Nat :=
  if l ≥ logZero then 0
  else log2lin (BitVec.ofNat 12 l) >>> (((l >>> 12 : Nat) : Int) + sft + 23).toNat

/-- `LVU.LogMul(a, b, g, sft)`, the scaler (R104). -/
def logMul (a b : BitVec 7) (g : Nat) (sft : Int) : Nat :=
  logToLinear (linearToLog a + linearToLog b + g) sft

end Sys2Proof.Machine
end

