-- ==== Sys2Proof/Machine/WfmStep.lean ====
section
/-! DEFINITION. One audio step of the WFM unit (spec/45_wfm_step.md R170 to R181): envelope generator, modulator,
modulation value, carrier, output scaler. A step reads the configuration and `raw` and writes neither. -/

namespace Sys2Proof.Machine

/-- `ENV_MAX` (00_scope.md R7): where a ramp up stops. -/
def envMax : BitVec 6 := 31

/-- `WFM.EGTICK(e)`: one envelope clock of an envelope whose volume register holds `reg` (R172). -/
def wfmEgTick (reg : Byte) (e : WfmEnv) : WfmEnv :=
  if fixedMode reg then e
  else if e.cnt.toNat ≥ (volField reg).toNat then
    { lvl :=
        if rampUp reg then
          if e.lvl.toNat < envMax.toNat then e.lvl + 1 else e.lvl
        else
          if e.lvl.toNat > 0 then e.lvl - 1 else e.lvl,
      cnt := 0 }
  else { e with cnt := e.cnt + 1 }

/-- One clock of the shared envelope generator: the modulator's envelope, then the carrier's (R171). -/
def wfmEgClock (m : Memory) (u : Wfm) : Wfm :=
  let u := { u with mEnv := wfmEgTick (m.byte aMVOL) u.mEnv }
  { u with cEnv := wfmEgTick (m.byte aCVOL) u.cEnv }

/-- `WFM.EGCLK`: `CPS << EG_FRAC_BITS` more units, one envelope clock per `EG_PERIOD_FX` (R171). -/
def wfmEgClk (c : Cfg) (m : Memory) (u : Wfm) : Wfm :=
  let d := divider (u.egAcc + (c.cps <<< c.egFracBits)) c.egPeriodFx
  Nat.iterate (wfmEgClock m) d.ticks { u with egAcc := d.rest }

/-- `BIAS_TBL` (00_scope.md R7, R174). -/
def biasTbl (v : BitVec 3) : Int := [0, 1, 2, 4, 0, -4, -2, -1].getD v.toNat 0

/-- `while bias > 63 do bias <- bias - 128` (R175), at most `fuel` rounds. -/
def biasDown (fuel : Nat) (b : Int) : Int :=
  match fuel with
  | 0 => b
  | n + 1 => if b > 63 then biasDown n (b - 128) else b

/-- `while bias < -64 do bias <- bias + 128` (R175), at most `fuel` rounds. -/
def biasUp (fuel : Nat) (b : Int) : Int :=
  match fuel with
  | 0 => b
  | n + 1 => if b < -64 then biasUp n (b + 128) else b

/-- `WFM.BIASWRAP` (R175): both loops, each with as many rounds as it can ever need (log 11). The lower bound is
closed (90_conflicts.md C1). -/
def biasWrap (b : Int) : Int :=
  let b := biasDown b.natAbs b
  biasUp b.natAbs b

/-- `WFM.BIASUPD(v)`: selector 4 resets, every other selector adds its table entry; then the wrap (R174). -/
def biasUpd (v : BitVec 3) (b : Int) : Int :=
  biasWrap (if v = 4#3 then 0 else b + biasTbl v)

/-- The `n` entries after table position `start` applied to the bias in table order, each with its wrap (R173). -/
def biasEntries (m : Memory) (start : Nat) (n : Nat) (b : Int) : Int :=
  match n with
  | 0 => b
  | j + 1 => biasUpd (msel m (BitVec.ofNat 6 (start + (j + 1)))) (biasEntries m start j b)

/-- `WFM.MODADV`: the modulator's phase advance and the entries it enters (R173). -/
def wfmModAdv (c : Cfg) (m : Memory) (u : Wfm) : Wfm :=
  if men m then
    let new := u.mPhase.toNat + mMul c m
    let n := (new >>> 16) - (u.mPhase.toNat >>> 16)
    { u with bias := biasEntries m (u.mPhase.toNat >>> 16) n u.bias, mPhase := BitVec.ofNat 22 new }
  else u

/-- `WFM.MODVAL`, first part: the product shifted by 4, corrected by -1 or +2 when its low nibble is not 0 (R176;
the unshifted product's nibble, 90_conflicts.md C6). `m_lvl` is not capped. -/
def modRound (bias : Int) (lvl : BitVec 6) : Int :=
  let p := bias * (lvl.toNat : Int)
  let q := p >>> 4
  if p % 16 ≠ 0 then (if bias < 0 then q - 1 else q + 2) else q

/-- `WFM.MODVAL`, second part: one test and correction (R177; 256 on the low side, 90_conflicts.md C2, log 5). -/
def modWrap (q : Int) : Int :=
  if q > 193 then q - 258 else if q < -64 then q + 256 else q

/-- `WFM.MODVAL`: the rounded and wrapped product scaled by the carrier's base frequency, floor shift by 6 (R178). -/
def modValue (bias : Int) (lvl : BitVec 6) (freq : BitVec 12) : Int :=
  (modWrap (modRound bias lvl) * (freq.toNat : Int)) >>> 6

/-- The combined frequency, floored at zero (R179). -/
def effFreq (freq : BitVec 12) (mod : Int) : Nat := (max 0 ((freq.toNat : Int) + mod)).toNat

/-- `WFM.CARADV(mod)`: the carrier's phase advance, modulo `2^22` (R179). -/
def wfmCarAdv (c : Cfg) (m : Memory) (mod : Int) (u : Wfm) : Wfm :=
  if cen m then { u with cPhase := BitVec.ofNat 22 (u.cPhase.toNat + effFreq (cfreq m) mod * c.cps) } else u

/-- The carrier's envelope level as it is output: capped at `VOL_CEIL` (R180). -/
def outLevel (c : Cfg) (lvl : BitVec 6) : BitVec 6 := if lvl.toNat ≤ c.volCeil.toNat then lvl else c.volCeil

/-- The value of `WFM.OUT` for table entry `w` and level `lvl`: the scaler's product, saturated (R180, R181). -/
def outValue (c : Cfg) (m : Memory) (w lvl : BitVec 6) : Nat :=
  min 32767 (logMul (w.setWidth 7) ((outLevel c lvl).setWidth 7) (mgain c (master m)) c.outShift)

/-- `WFM.OUT`: the sample at the current carrier phase (R180). -/
def wfmOut (c : Cfg) (m : Memory) (u : Wfm) : Sample :=
  BitVec.ofNat 16 (outValue c m (cwave m (phaseIndex u.cPhase)) u.cEnv.lvl)

/-- `WFM.STEP`: the unit after one audio step, and its sample (R170): envelope clocks, modulator advance, modulation
value, carrier advance, output at the new carrier phase. -/
def wfmStep (c : Cfg) (m : Memory) (u : Wfm) : Wfm × Sample :=
  let u := wfmEgClk c m u
  let u := wfmModAdv c m u
  let mod := modValue u.bias u.mEnv.lvl (cfreq m)
  let u := wfmCarAdv c m mod u
  (u, wfmOut c m u)

end Sys2Proof.Machine
end

