-- ==== Sys2Proof/Machine/HostCommands.lean ====
section
/-! DEFINITION. The host commands that are no register write (spec/40_host_commands.md): RD R90, WR.RSVD R96, ADV R92
with its audio step R94, RST R93. -/

namespace Sys2Proof.Machine

open Host (Outcome)

/-- The byte a READ returns: the cell, or `0x00` for a reserved address (R90, 20_memory.md R57). -/
def readByte (m : Memory) (a : Addr) : Byte := if implemented a then m.byte a else 0x00#8

/-- `AudioStep()`: one step of each unit, and the pair of their samples emitted (R94). -/
def audioStep (s : State) : State :=
  let p := pncStep s.cfg s.raw s.pnc
  let w := wfmStep s.cfg s.raw s.wfm
  { s with pnc := p.1, wfm := w.1 }.emitSample p.2 w.2

/-- `RD` (R90). -/
def execRd (addr : Addr) (s : State) : Outcome State Fault Refusal :=
  whenLive s fun s => s.emitRead (readByte s.raw addr)

/-- `WR.RSVD` (R96): the byte is stored nowhere. With an implemented address, which no word decodes to, it does nothing
either (DESIGN CHOICE, log 14). -/
def execWrRsvd (_addr : Addr) (_data : Byte) (s : State) : Outcome State Fault Refusal :=
  whenLive s fun s => s

/-- `ADV` (R92): one audio step per `CPS` cycles; the cycles left over are kept. -/
def execAdv (count : BitVec 30) (s : State) : Outcome State Fault Refusal :=
  whenLive s fun s =>
    let d := divider (s.cycAcc + count.toNat) s.cfg.cps
    Nat.iterate audioStep d.ticks { s with cycAcc := d.rest }

/-- `RST` (R93): every element its value of 10_state.md R42, whatever came before; the streams are left as they are.
The one command accepted while `live = 0`. -/
def execRst (s : State) : Outcome State Fault Refusal :=
  .next { s with
    live := true, cycAcc := 0, raw := Memory.resetImage s.cfg, wfm := Wfm.reset, pnc := Pnc.reset }

end Sys2Proof.Machine
end

