-- ==== Sys2Proof/Machine/PncRegisters.lean ====
section
/-! DEFINITION. WRITE to the PNC registers (spec/42_pnc_registers.md R115 to R125): the store of R91, then the side
effects of the register's rule. -/

namespace Sys2Proof.Machine

open Host (Outcome)

/-- The envelope after a control register write: level 15 when `DECAY = 1`, else `VAL`; counter zeroed (R115, R118,
R123). The old envelope does not matter. -/
def pncCtlEnv (data : Byte) : PncEnv :=
  { lvl := if decayBit data then 15 else valField data, cnt := 0 }

/-- A pulse oscillator after a high register write: disabling zeroes timer and sequencer (R117, R120). -/
def pulseHiWrite (data : Byte) (p : Pulse) : Pulse :=
  if enableBit data then p else { p with acc := 0, seq := 0 }

/-- `WR.P0CTL` (R115). -/
def execWrP0ctl (data : Byte) (s : State) : Outcome State Fault Refusal :=
  whenLive s fun s =>
    let s := s.store aP0CTL data
    { s with pnc := { s.pnc with p0 := { s.pnc.p0 with env := pncCtlEnv data } } }

/-- `WR.P0LO` (R116). -/
def execWrP0lo (data : Byte) (s : State) : Outcome State Fault Refusal :=
  whenLive s fun s => s.store aP0LO data

/-- `WR.P0HI` (R117). -/
def execWrP0hi (data : Byte) (s : State) : Outcome State Fault Refusal :=
  whenLive s fun s =>
    let s := s.store aP0HI data
    { s with pnc := { s.pnc with p0 := pulseHiWrite data s.pnc.p0 } }

/-- `WR.P1CTL` (R118). -/
def execWrP1ctl (data : Byte) (s : State) : Outcome State Fault Refusal :=
  whenLive s fun s =>
    let s := s.store aP1CTL data
    { s with pnc := { s.pnc with p1 := { s.pnc.p1 with env := pncCtlEnv data } } }

/-- `WR.P1LO` (R119). -/
def execWrP1lo (data : Byte) (s : State) : Outcome State Fault Refusal :=
  whenLive s fun s => s.store aP1LO data

/-- `WR.P1HI` (R120). -/
def execWrP1hi (data : Byte) (s : State) : Outcome State Fault Refusal :=
  whenLive s fun s =>
    let s := s.store aP1HI data
    { s with pnc := { s.pnc with p1 := pulseHiWrite data s.pnc.p1 } }

/-- `WR.TLO` (R121). -/
def execWrTlo (data : Byte) (s : State) : Outcome State Fault Refusal :=
  whenLive s fun s => s.store aTLO data

/-- `WR.THI` (R122): disabling zeroes timer and sequencer. -/
def execWrThi (data : Byte) (s : State) : Outcome State Fault Refusal :=
  whenLive s fun s =>
    let s := s.store aTHI data
    if enableBit data then s else { s with pnc := { s.pnc with tri := { acc := 0, seq := 0 } } }

/-- `WR.NCTL` (R123). -/
def execWrNctl (data : Byte) (s : State) : Outcome State Fault Refusal :=
  whenLive s fun s =>
    let s := s.store aNCTL data
    { s with pnc := { s.pnc with noise := { s.pnc.noise with env := pncCtlEnv data } } }

/-- `WR.NLO` (R124). -/
def execWrNlo (data : Byte) (s : State) : Outcome State Fault Refusal :=
  whenLive s fun s => s.store aNLO data

/-- `WR.NHI` (R125): disabling zeroes the timer; the shift register is not touched. -/
def execWrNhi (data : Byte) (s : State) : Outcome State Fault Refusal :=
  whenLive s fun s =>
    let s := s.store aNHI data
    if enableBit data then s else { s with pnc := { s.pnc with noise := { s.pnc.noise with acc := 0 } } }

end Sys2Proof.Machine
end

