-- ==== Sys2Proof/Machine/WfmRegisters.lean ====
section
/-! DEFINITION. WRITE to the WFM registers (spec/44_wfm_registers.md R150 to R159): the store of R91, then the side
effects of the register's rule. -/

namespace Sys2Proof.Machine

open Host (Outcome)

/-- A volume register write: fixed mode loads the level, ramp mode keeps it, both zero the counter (R152, R155). -/
def wfmVolWrite (data : Byte) (e : WfmEnv) : WfmEnv :=
  { lvl := if fixedMode data then volField data else e.lvl, cnt := 0 }

/-- `WR.CWAVE` (R150). -/
def execWrCwave (i : BitVec 6) (data : Byte) (s : State) : Outcome State Fault Refusal :=
  whenLive s fun s => s.store (cwaveAddr i) data

/-- `WR.MWAVE` (R151). -/
def execWrMwave (i : BitVec 6) (data : Byte) (s : State) : Outcome State Fault Refusal :=
  whenLive s fun s => s.store (mwaveAddr i) data

/-- `WR.CVOL` (R152). -/
def execWrCvol (data : Byte) (s : State) : Outcome State Fault Refusal :=
  whenLive s fun s =>
    let s := s.store aCVOL data
    { s with wfm := { s.wfm with cEnv := wfmVolWrite data s.wfm.cEnv } }

/-- `WR.CFLO` (R153): the frequency view changes with the byte; the phase does not. -/
def execWrCflo (data : Byte) (s : State) : Outcome State Fault Refusal :=
  whenLive s fun s => s.store aCFLO data

/-- `WR.CFHI` (R154): disabling the carrier zeroes its phase. -/
def execWrCfhi (data : Byte) (s : State) : Outcome State Fault Refusal :=
  whenLive s fun s =>
    let s := s.store aCFHI data
    if enableBit data then s else { s with wfm := { s.wfm with cPhase := 0 } }

/-- `WR.MVOL` (R155). -/
def execWrMvol (data : Byte) (s : State) : Outcome State Fault Refusal :=
  whenLive s fun s =>
    let s := s.store aMVOL data
    { s with wfm := { s.wfm with mEnv := wfmVolWrite data s.wfm.mEnv } }

/-- `WR.MCTL` (R156): every write resets the bias; disabling the modulator zeroes its phase. -/
def execWrMctl (data : Byte) (s : State) : Outcome State Fault Refusal :=
  whenLive s fun s =>
    let s := s.store aMCTL data
    let s := { s with wfm := { s.wfm with bias := 0 } }
    if enableBit data then s else { s with wfm := { s.wfm with mPhase := 0 } }

/-- `WR.MFLO` (R157). -/
def execWrMflo (data : Byte) (s : State) : Outcome State Fault Refusal :=
  whenLive s fun s => s.store aMFLO data

/-- `WR.MFHI` (R158). -/
def execWrMfhi (data : Byte) (s : State) : Outcome State Fault Refusal :=
  whenLive s fun s => s.store aMFHI data

/-- `WR.MASTER` (R159). -/
def execWrMaster (data : Byte) (s : State) : Outcome State Fault Refusal :=
  whenLive s fun s => s.store aMASTER data

end Sys2Proof.Machine
end

