-- ==== Sys2Proof/Machine/Dispatch.lean ====
section
/-! DEFINITION. The dispatch: one arm per command, each calling that command's meaning. -/

namespace Sys2Proof.Machine

open Host (Outcome)

/-- The meaning of a command. -/
def exec (i : Instr) (s : State) : Host.Outcome State Fault Refusal :=
  match i with
  | .wrCwave k data => Sys2Proof.Machine.execWrCwave k data s
  | .wrMwave k data => Sys2Proof.Machine.execWrMwave k data s
  | .wrCvol data => Sys2Proof.Machine.execWrCvol data s
  | .wrCflo data => Sys2Proof.Machine.execWrCflo data s
  | .wrCfhi data => Sys2Proof.Machine.execWrCfhi data s
  | .wrMvol data => Sys2Proof.Machine.execWrMvol data s
  | .wrMctl data => Sys2Proof.Machine.execWrMctl data s
  | .wrMflo data => Sys2Proof.Machine.execWrMflo data s
  | .wrMfhi data => Sys2Proof.Machine.execWrMfhi data s
  | .wrMaster data => Sys2Proof.Machine.execWrMaster data s
  | .wrP0ctl data => Sys2Proof.Machine.execWrP0ctl data s
  | .wrP0lo data => Sys2Proof.Machine.execWrP0lo data s
  | .wrP0hi data => Sys2Proof.Machine.execWrP0hi data s
  | .wrP1ctl data => Sys2Proof.Machine.execWrP1ctl data s
  | .wrP1lo data => Sys2Proof.Machine.execWrP1lo data s
  | .wrP1hi data => Sys2Proof.Machine.execWrP1hi data s
  | .wrTlo data => Sys2Proof.Machine.execWrTlo data s
  | .wrThi data => Sys2Proof.Machine.execWrThi data s
  | .wrNctl data => Sys2Proof.Machine.execWrNctl data s
  | .wrNlo data => Sys2Proof.Machine.execWrNlo data s
  | .wrNhi data => Sys2Proof.Machine.execWrNhi data s
  | .wrRsvd addr data => Sys2Proof.Machine.execWrRsvd addr data s
  | .rd addr => Sys2Proof.Machine.execRd addr s
  | .adv count => Sys2Proof.Machine.execAdv count s
  | .rst => Sys2Proof.Machine.execRst s

end Sys2Proof.Machine
end

