-- ==== Sys2Proof/Machine/Step.lean ====
section
/-! DEFINITION. One step: the next command word of the host's sequence, decoded and performed to completion
(spec/40_host_commands.md R95, 00_scope.md R12). -/

namespace Sys2Proof.Machine

open Host (Outcome)

/-- One step. No command pending: the block is quiescent and nothing changes (R95). An illegal word is refused and the
next command is treated normally (60_exceptions.md R206; log 3). -/
def step (s : State) : Outcome State Fault Refusal :=
  match s.nextCommand with
  | none => .next s
  | some (w, s') =>
    match decode w with
    | .ok i => exec i s'
    | .error e => .next (s'.refuse (.illegal e))

/-- `s` with a table word presented as the host's next command, before those already pending (log 2). -/
def State.withFetchWord (s : State) (nbits w : Nat) : State :=
  { s with pending := tableWord nbits w :: s.pending }

end Sys2Proof.Machine
end

