-- ==== Sys2Proof/Machine/Assembler.lean ====
section
/-! DEFINITION. The textual form of a command stream (spec/30_encoding.md R80) and the pseudo-instructions (R81).
They are notations of the spec for sequences of command words; no step reads them. The text is a list of characters;
spacing and letter case are as log 13 says. -/

namespace Sys2Proof.Machine

/-- The pseudo-instructions of R81, their operands in the ranges R81 gives. -/
inductive Pseudo where
  | nop
  /-- `STEP k`: `k` audio steps. -/
  | stepK (k : Nat)
  | cfreq (f : BitVec 12) (en : Bool)
  | mfreq (f : BitVec 12)
  | cfix (v : BitVec 6)
  | cramp (dir : Bool) (rate : BitVec 6)
  | mfix (v : BitVec 6)
  | mramp (dir : Bool) (rate : BitVec 6)
  | modon
  | modoff
  /-- `PPER c, p, en`: pulse oscillator 0 (`c = false`) or 1. -/
  | pper (c : Bool) (p : BitVec 11) (en : Bool)
  | tper (p : BitVec 11) (en : Bool)
  | nper (p : BitVec 11) (en : Bool)
deriving DecidableEq, Repr

/-- `(en << 7) | (f >> 8)` for a 12-bit frequency. -/
def freqHigh (f : BitVec 12) (en : Bool) : Byte := BitVec.ofBool en ++ (0#3 ++ f.extractLsb' 8 4)

/-- `(en << 7) | (p >> 8)` for an 11-bit period. -/
def periodHigh (p : BitVec 11) (en : Bool) : Byte := BitVec.ofBool en ++ (0#4 ++ p.extractLsb' 8 3)

/-- `0x80 | v`: a fixed-volume byte. -/
def fixedByte (v : BitVec 6) : Byte := 2#2 ++ v

/-- `(dir << 6) | rate`: a ramp byte. -/
def rampByte (dir : Bool) (rate : BitVec 6) : Byte := 0#1 ++ (BitVec.ofBool dir ++ rate)

/-- The expansion of a pseudo-instruction (R81); none where it is not legal (`STEP k` with `k x CPS >= 2^30`). -/
def Pseudo.expand (c : Cfg) : Pseudo → Option (List Instr)
  | .nop => some [.adv 0]
  | .stepK k => if k * c.cps < 2 ^ 30 then some [.adv (BitVec.ofNat 30 (k * c.cps))] else none
  | .cfreq f en => some [.wrCflo (f.extractLsb' 0 8), .wrCfhi (freqHigh f en)]
  | .mfreq f => some [.wrMflo (f.extractLsb' 0 8), .wrMfhi (freqHigh f false)]
  | .cfix v => some [.wrCvol (fixedByte v)]
  | .cramp dir rate => some [.wrCvol (rampByte dir rate)]
  | .mfix v => some [.wrMvol (fixedByte v)]
  | .mramp dir rate => some [.wrMvol (rampByte dir rate)]
  | .modon => some [.wrMctl 0x80]
  | .modoff => some [.wrMctl 0x00]
  | .pper false p en => some [.wrP0lo (p.extractLsb' 0 8), .wrP0hi (periodHigh p en)]
  | .pper true p en => some [.wrP1lo (p.extractLsb' 0 8), .wrP1hi (periodHigh p en)]
  | .tper p en => some [.wrTlo (p.extractLsb' 0 8), .wrThi (periodHigh p en)]
  | .nper p en => some [.wrNlo (p.extractLsb' 0 8), .wrNhi (periodHigh p en)]

/-- The register names of R80 and their addresses. -/
def regNames : List (List Char × Addr) := [
  ("CVOL".toList, aCVOL), ("CFLO".toList, aCFLO), ("CFHI".toList, aCFHI), ("MVOL".toList, aMVOL),
  ("MCTL".toList, aMCTL), ("MFLO".toList, aMFLO), ("MFHI".toList, aMFHI), ("MASTER".toList, aMASTER),
  ("P0CTL".toList, aP0CTL), ("P0LO".toList, aP0LO), ("P0HI".toList, aP0HI), ("P1CTL".toList, aP1CTL),
  ("P1LO".toList, aP1LO), ("P1HI".toList, aP1HI), ("TLO".toList, aTLO), ("THI".toList, aTHI),
  ("NCTL".toList, aNCTL), ("NLO".toList, aNLO), ("NHI".toList, aNHI)]

/-- The characters that are tokens of their own. -/
def isMark (ch : Char) : Bool := ch == ',' || ch == '[' || ch == ']'

/-- A pending word, kept in reverse, as a token before the rest. -/
def flushWord (word : List Char) (rest : List (List Char)) : List (List Char) :=
  if word.isEmpty then rest else word.reverse :: rest

/-- The tokens of a line up to its comment: words, and the marks (R80). `word` is the word being read, reversed. -/
def tokens (word : List Char) : List Char → List (List Char)
  | [] => flushWord word []
  | ch :: rest =>
    if ch == ';' then flushWord word []
    else if ch == ' ' || ch == '\t' then flushWord word (tokens [] rest)
    else if isMark ch then flushWord word ([ch] :: tokens [] rest)
    else tokens (ch :: word) rest

/-- The value of a digit character, `0-9`, `a-f` or `A-F`. -/
def digitVal (ch : Char) : Option Nat :=
  let n := ch.toNat
  if 48 ≤ n ∧ n ≤ 57 then some (n - 48)
  else if 65 ≤ n ∧ n ≤ 70 then some (n - 55)
  else if 97 ≤ n ∧ n ≤ 102 then some (n - 87)
  else none

/-- The number that digits of a base spell after `acc`. -/
def digits (base acc : Nat) : List Char → Option Nat
  | [] => some acc
  | ch :: rest =>
    match digitVal ch with
    | none => none
    | some d => if d < base then digits base (acc * base + d) rest else none

/-- A number: decimal, or hexadecimal after `0x` (R80). -/
def number : List Char → Option Nat
  | [] => none
  | '0' :: 'x' :: ch :: rest => digits 16 0 (ch :: rest)
  | word => digits 10 0 word

/-- A number that fits a field of `w` bits: the assembler refuses an operand that does not (R80). -/
def fits (w : Nat) (word : List Char) : Option (BitVec w) :=
  match number word with
  | none => none
  | some n => if n < 2 ^ w then some (BitVec.ofNat w n) else none

/-- An `<addr>`: a register name, `CWAVE[i]`, `MWAVE[i]`, or a number `0..0x1FF`; and the tokens after it (R80). -/
def address : List (List Char) → Option (Addr × List (List Char))
  | ['C', 'W', 'A', 'V', 'E'] :: ['['] :: i :: [']'] :: rest => (fits 6 i).map fun k => (cwaveAddr k, rest)
  | ['M', 'W', 'A', 'V', 'E'] :: ['['] :: i :: [']'] :: rest => (fits 6 i).map fun k => (mwaveAddr k, rest)
  | word :: rest =>
    match regNames.lookup word with
    | some a => some (a, rest)
    | none => (fits 9 word).map fun a => (a, rest)
  | [] => none

/-- A flag operand, `0` or `1`. -/
def flag (word : List Char) : Option Bool := (fits 1 word).map fun b => decide (b = 1#1)

/-- The operands of a pseudo-instruction line, after its name. -/
def pseudo (name : List Char) (ops : List (List Char)) : Option Pseudo :=
  match ops with
  | [] =>
    if name = "NOP".toList then some .nop
    else if name = "MODON".toList then some .modon
    else if name = "MODOFF".toList then some .modoff
    else none
  | [a] =>
    if name = "STEP".toList then (number a).map .stepK
    else if name = "MFREQ".toList then (fits 12 a).map .mfreq
    else if name = "CFIX".toList then (fits 6 a).map .cfix
    else if name = "MFIX".toList then (fits 6 a).map .mfix
    else none
  | [a, [','], b] =>
    if name = "CFREQ".toList then (fits 12 a).bind fun f => (flag b).map (.cfreq f)
    else if name = "CRAMP".toList then (flag a).bind fun d => (fits 6 b).map (.cramp d)
    else if name = "MRAMP".toList then (flag a).bind fun d => (fits 6 b).map (.mramp d)
    else if name = "TPER".toList then (fits 11 a).bind fun p => (flag b).map (.tper p)
    else if name = "NPER".toList then (fits 11 a).bind fun p => (flag b).map (.nper p)
    else none
  | [a, [','], b, [','], d] =>
    if name = "PPER".toList then (flag a).bind fun c => (fits 11 b).bind fun p => (flag d).map (.pper c p)
    else none
  | _ => none

/-- The words of one line: a command of R80, a pseudo-instruction of R81, or nothing on an empty or comment line;
none where the assembler refuses. -/
def assembleLine (c : Cfg) (line : List Char) : Option (List Hcw) :=
  match tokens [] line with
  | [] => some []
  | name :: ops =>
    if name = "RST".toList then (if ops.isEmpty then some [encode .rst] else none)
    else if name = "ADV".toList then
      match ops with
      | [n] => (fits 30 n).map fun k => [encode (.adv k)]
      | _ => none
    else if name = "RD".toList then
      match address ops with
      | some (a, []) => some [readWord a]
      | _ => none
    else if name = "WR".toList then
      match address ops with
      | some (a, [[','], d]) => (fits 8 d).map fun v => [writeWord a v]
      | _ => none
    else
      match pseudo name ops with
      | none => none
      | some p => (p.expand c).map fun is => is.map encode

end Sys2Proof.Machine
end

