-- ==== Sys2Proof/Safety.lean ====
section
/-! DEFINITION. What counts as a regular state and the terms statements use: the invariants the spec lists for every
command boundary (spec/10_state.md R46), the power-on states (70_reset_and_hazards.md R220), and what a write leaves
unchanged. -/

namespace Sys2Proof.Machine

/-- The invariants of R46, and that `raw` is in its canonical form. -/
structure State.Regular (s : State) : Prop where
  /-- The register file is in canonical form. -/
  rawCanonical : Memory.wf s.raw
  /-- R46 (a) -/
  biasRange : -64 ≤ s.wfm.bias ∧ s.wfm.bias ≤ 63
  /-- R46 (b) -/
  carrierOff : cen s.raw = false → s.wfm.cPhase = 0
  /-- R46 (b) -/
  modulatorOff : men s.raw = false → s.wfm.mPhase = 0 ∧ s.wfm.bias = 0
  /-- R46 (c) -/
  carrierCount : s.wfm.cEnv.cnt.toNat ≤ (volField (s.raw.byte aCVOL)).toNat
  /-- R46 (c) -/
  modulatorCount : s.wfm.mEnv.cnt.toNat ≤ (volField (s.raw.byte aMVOL)).toNat
  /-- R46 (d) -/
  carrierFixed : fixedMode (s.raw.byte aCVOL) = true → s.wfm.cEnv.lvl = volField (s.raw.byte aCVOL)
  /-- R46 (d) -/
  modulatorFixed : fixedMode (s.raw.byte aMVOL) = true → s.wfm.mEnv.lvl = volField (s.raw.byte aMVOL)
  /-- R46 (e) -/
  cyclesLeft : s.cycAcc < s.cfg.cps
  /-- R46 (e) -/
  egLeft : s.wfm.egAcc < s.cfg.egPeriodFx
  /-- R46 (e) -/
  divLeft : s.pnc.divAcc < s.cfg.pncDiv
  /-- R46 (e) -/
  envLeft : s.pnc.envAcc < s.cfg.pncEnvPeriod
  /-- R46 (f) -/
  lfsrNonzero : s.pnc.noise.lfsr ≠ 0
  /-- R46 (g) -/
  pulse0Off : enabled s.raw aP0HI = false → s.pnc.p0.acc = 0 ∧ s.pnc.p0.seq = 0
  /-- R46 (g) -/
  pulse1Off : enabled s.raw aP1HI = false → s.pnc.p1.acc = 0 ∧ s.pnc.p1.seq = 0
  /-- R46 (g) -/
  triangleOff : enabled s.raw aTHI = false → s.pnc.tri.acc = 0 ∧ s.pnc.tri.seq = 0
  /-- R46 (g) -/
  noiseOff : enabled s.raw aNHI = false → s.pnc.noise.acc = 0
  /-- R46 (h) -/
  pulse0Count : s.pnc.p0.env.cnt.toNat ≤ (valField (s.raw.byte aP0CTL)).toNat
  /-- R46 (h) -/
  pulse1Count : s.pnc.p1.env.cnt.toNat ≤ (valField (s.raw.byte aP1CTL)).toNat
  /-- R46 (h) -/
  noiseCount : s.pnc.noise.env.cnt.toNat ≤ (valField (s.raw.byte aNCTL)).toNat

/-- The invariant of the machine: once `live = 1`, the state is regular (R46). -/
def State.Inv (s : State) : Prop := s.live = true → s.Regular

/-- A power-on state (R220): not live, both streams empty, every other element of the block with no specified value,
so free. -/
def State.PowerOn (s : State) : Prop := s.live = false ∧ s.samples = [] ∧ s.reads = []

/-- The cell at `a` holds `d` after, and the byte at every other address reads as before. -/
def StoredByte (s t : State) (a : Addr) (d : Byte) : Prop :=
  t.raw.read a.toNat = d ∧ ∀ b : Nat, b ≠ a.toNat → t.raw.read b = s.raw.read b

/-- Everything but `raw` and the two units' internal state is as before. -/
def SameHostSide (s t : State) : Prop :=
  t.cfg = s.cfg ∧ t.live = s.live ∧ t.cycAcc = s.cycAcc ∧ t.samples = s.samples ∧ t.reads = s.reads ∧
    t.pending = s.pending ∧ t.report = s.report

/-- The audio steps that `count` cycles complete (40_host_commands.md R92). -/
def State.stepsIn (s : State) (count : BitVec 30) : Nat := (s.cycAcc + count.toNat) / s.cfg.cps

/-- The PNC internal clocks of the next `n` audio steps (43_pnc_step.md R130). -/
def State.clocksIn (s : State) (n : Nat) : Nat := (s.pnc.divAcc + n * s.cfg.cps) / s.cfg.pncDiv

end Sys2Proof.Machine
end

