-- ==== Sys2Proof/Certificates/Slice0/Obligations.lean ====
section
/-! DEFINITION. The statements about the model, each formalising the rules of spec/ that OBLIGATIONS.json names. -/

open Sys2Proof Sys2Proof.Machine

/-! ### The command words -/

/-- Decoding the word of a well-formed command gives the command back (R70 to R74, R76). -/
def Obligations.DecodeEncodeRoundTrip : Prop :=
  ∀ i : Instr, i.wellFormed = true → decode (encode i) = .ok i

/-- A word that decodes is the word of the command it decodes to, and that command is well formed: a command has one
word only. -/
def Obligations.EncodeDecodeRoundTrip : Prop :=
  ∀ (w : Hcw) (i : Instr), decode w = .ok i → encode i = w ∧ i.wellFormed = true

/-- The decoder refuses exactly the words R75 calls illegal. -/
def Obligations.DecodeRefusesExactlyIllegalWords : Prop :=
  ∀ w : Hcw, (∃ e, decode w = .error e) ↔
    ((w.extractLsb' 30 2 = 0#2 ∨ w.extractLsb' 30 2 = 1#2) ∧ w.extractLsb' 17 13 ≠ 0#13) ∨
    (w.extractLsb' 30 2 = 0#2 ∧ w.extractLsb' 0 8 ≠ 0#8) ∨
    (w.extractLsb' 30 2 = 3#2 ∧ w.extractLsb' 0 30 ≠ 0#30)

/-- Words of the spec's decoding table (95_test_vectors.md section 2.2), written out, decode as it says. -/
def Obligations.SpecWordsDecode : Prop :=
  decode 0xC0000000#32 = .ok .rst ∧ decode 0xC0000001#32 = .error .zero30 ∧
  decode 0x80000300#32 = .ok (.adv 768) ∧ decode 0xBFFFFFFF#32 = .ok (.adv 1073741823) ∧
  decode 0x00008700#32 = .ok (.rd 0x087) ∧ decode 0x00008701#32 = .error .zero8 ∧
  decode 0x00020000#32 = .error .zero13 ∧ decode 0x4000033F#32 = .ok (.wrCwave 3 0x3F) ∧
  decode 0x40004307#32 = .ok (.wrMwave 3 0x07) ∧ decode 0x40008281#32 = .ok (.wrCfhi 0x81) ∧
  decode 0x4001008A#32 = .ok (.wrP0ctl 0x8A) ∧ decode 0x40010E80#32 = .ok (.wrNhi 0x80) ∧
  decode 0x40010877#32 = .ok (.wrRsvd 0x108 0x77) ∧ decode 0x60000000#32 = .error .zero13

/-! ### Steps -/

/-- When the next pending word decodes to a command, the step performs that command, on the state with the word taken
and the report of the command before it gone. -/
def Obligations.StepRunsDecodedCommand : Prop :=
  ∀ (s : State) (w : Hcw) (rest : List Hcw) (i : Instr), s.pending = w :: rest → decode w = .ok i →
    step s = exec i { s with pending := rest, report := none }

/-- With no command pending nothing changes: the block is quiescent (R95; that the sequence is `pending` is the
model's choice, log 2). -/
def Obligations.QuiescentWithoutCommand : Prop :=
  ∀ s : State, s.pending = [] → step s = .next s

/-- The two refusals of R206 change nothing of the block: (a) an illegal word is taken from the sequence and reported;
(b) a command other than RESET before the first RESET is reported. Taking a next state and what `report` holds are the
model's choice (log 3). -/
def Obligations.RefusedCommandsChangeNothing : Prop :=
  (∀ (s : State) (w : Hcw) (rest : List Hcw) (e : Illegal), s.pending = w :: rest → decode w = .error e →
    step s = .next { s with pending := rest, report := some (.illegal e) }) ∧
  (∀ (i : Instr) (s : State), s.live = false → i ≠ .rst →
    exec i s = .next { s with report := some .beforeReset })

/-- No command and no step faults, and the model refuses none, in any state (R200). -/
def Obligations.NothingEverFaults : Prop :=
  (∀ (i : Instr) (s : State), ∃ t, exec i s = .next t) ∧ (∀ s : State, ∃ t, step s = .next t)

/-- The streams only grow, the configuration never changes, and `live` is never cleared, whatever the step
(R40, R41, R43). -/
def Obligations.StreamsOnlyGrow : Prop :=
  ∀ s t : State, step s = .next t →
    s.samples <+: t.samples ∧ s.reads <+: t.reads ∧ t.cfg = s.cfg ∧ (s.live = true → t.live = true)

/-! ### READ and WRITE -/

/-- READ appends the cell of an implemented address, or 0x00 for a reserved one, and changes nothing else (R90). -/
def Obligations.ReadAppendsRegisterByte : Prop :=
  ∀ (s : State) (a : Addr), s.live = true →
    exec (.rd a) s = .next { s with reads := s.reads ++
      [if a.toNat ≤ 0x87 ∨ a.toNat ∈ [0x100, 0x101, 0x102, 0x104, 0x105, 0x106, 0x109, 0x10A, 0x10C, 0x10D, 0x10E]
        then s.raw.read a.toNat else 0x00#8] }

/-- A write to a reserved address changes nothing, and a later READ of it returns 0x00 (R96). The first clause is over
every address: for an implemented one, where WR.RSVD is ill formed and the spec gives it no meaning, that it does nothing
is the model's choice (DESIGN CHOICE, log 14). -/
def Obligations.ReservedWriteChangesNothing : Prop :=
  ∀ (s : State) (a : Addr) (d : Byte), s.live = true →
    exec (.wrRsvd a d) s = .next s ∧
    (implemented a = false → exec (.rd a) s = .next { s with reads := s.reads ++ [0x00#8] })

/-- For every implemented address, the WRITE word with that address decodes to a command that stores the byte there
and in no other cell, and leaves the host side alone; a READ of the address then returns the byte, reserved bits
included (R72, R76, R91, R55). -/
def Obligations.WriteThenReadReturnsByte : Prop :=
  ∀ (s : State) (a : Addr) (d : Byte), s.live = true → implemented a = true →
    ∃ i t, decode (0x40000000#32 ||| (a.setWidth 32 <<< 8) ||| d.setWidth 32) = .ok i ∧ exec i s = .next t ∧
      StoredByte s t a d ∧ SameHostSide s t ∧ exec (.rd a) t = .next { t with reads := t.reads ++ [d] }

/-- The waveform-table writes: the byte is stored at its entry, the entry's view takes its low bits at once, and
nothing else changes (R150, R151, R60). -/
def Obligations.WaveTableWrites : Prop :=
  ∀ (s : State) (i : BitVec 6) (d : Byte), s.live = true →
    (∃ t, exec (.wrCwave i d) s = .next t ∧ (cwaveAddr i).toNat = i.toNat ∧ StoredByte s t (cwaveAddr i) d ∧
      cwave t.raw i = d.extractLsb' 0 6 ∧ t.wfm = s.wfm ∧ t.pnc = s.pnc ∧ SameHostSide s t) ∧
    (∃ t, exec (.wrMwave i d) s = .next t ∧ (mwaveAddr i).toNat = 0x40 + i.toNat ∧
      StoredByte s t (mwaveAddr i) d ∧ msel t.raw i = d.extractLsb' 0 3 ∧ t.wfm = s.wfm ∧ t.pnc = s.pnc ∧
      SameHostSide s t)

/-- The frequency byte writes without an enable bit: the byte is stored, the 12-bit view and the cached multiplier
change at once, no phase and no bias moves (R153, R157, R158). -/
def Obligations.FrequencyByteWrites : Prop :=
  ∀ (s : State) (d : Byte), s.live = true →
    (∃ t, exec (.wrCflo d) s = .next t ∧ StoredByte s t 0x081 d ∧
      (cfreq t.raw).toNat = (cfreq s.raw).toNat / 256 * 256 + d.toNat ∧
      cMul t.cfg t.raw = (cfreq t.raw).toNat * t.cfg.cps ∧ t.wfm = s.wfm ∧ t.pnc = s.pnc ∧ SameHostSide s t) ∧
    (∃ t, exec (.wrMflo d) s = .next t ∧ StoredByte s t 0x085 d ∧
      (mfreq t.raw).toNat = (mfreq s.raw).toNat / 256 * 256 + d.toNat ∧
      mMul t.cfg t.raw = (mfreq t.raw).toNat * t.cfg.cps ∧ t.wfm = s.wfm ∧ t.pnc = s.pnc ∧ SameHostSide s t) ∧
    (∃ t, exec (.wrMfhi d) s = .next t ∧ StoredByte s t 0x086 d ∧
      (mfreq t.raw).toNat = d.toNat % 16 * 256 + (mfreq s.raw).toNat % 256 ∧
      mMul t.cfg t.raw = (mfreq t.raw).toNat * t.cfg.cps ∧ t.wfm = s.wfm ∧ t.pnc = s.pnc ∧ SameHostSide s t)

/-- The carrier's high frequency write: bit 7 is the enable, bits 3:0 the high frequency bits; a write with bit 7
clear zeroes the carrier's phase, and nothing else of the unit changes (R154). -/
def Obligations.CarrierHighWrite : Prop :=
  ∀ (s : State) (d : Byte), s.live = true →
    ∃ t, exec (.wrCfhi d) s = .next t ∧ StoredByte s t 0x082 d ∧
      (cfreq t.raw).toNat = d.toNat % 16 * 256 + (cfreq s.raw).toNat % 256 ∧
      cMul t.cfg t.raw = (cfreq t.raw).toNat * t.cfg.cps ∧ cen t.raw = d[7] ∧
      t.wfm = { s.wfm with cPhase := if d[7] then s.wfm.cPhase else 0 } ∧
      phaseIndex t.wfm.cPhase = (if d[7] then phaseIndex s.wfm.cPhase else 0) ∧ t.pnc = s.pnc ∧ SameHostSide s t

/-- The modulator control write: every write zeroes the bias, a write with bit 7 clear also the modulator's phase
(R156). -/
def Obligations.ModulatorControlWrite : Prop :=
  ∀ (s : State) (d : Byte), s.live = true →
    ∃ t, exec (.wrMctl d) s = .next t ∧ StoredByte s t 0x084 d ∧ men t.raw = d[7] ∧
      t.wfm = { s.wfm with bias := 0, mPhase := if d[7] then s.wfm.mPhase else 0 } ∧
      phaseIndex t.wfm.mPhase = (if d[7] then phaseIndex s.wfm.mPhase else 0) ∧ t.pnc = s.pnc ∧ SameHostSide s t

/-- The volume writes: bit 7 set loads the level from bits 5:0, bit 7 clear keeps it, and both zero the rate counter
of that envelope and touch nothing else (R152, R155). -/
def Obligations.VolumeWrites : Prop :=
  ∀ (s : State) (d : Byte), s.live = true →
    (∃ t, exec (.wrCvol d) s = .next t ∧ StoredByte s t 0x080 d ∧
      t.wfm = { s.wfm with cEnv := ⟨if d[7] then d.extractLsb' 0 6 else s.wfm.cEnv.lvl, 0⟩ } ∧
      t.pnc = s.pnc ∧ SameHostSide s t) ∧
    (∃ t, exec (.wrMvol d) s = .next t ∧ StoredByte s t 0x083 d ∧
      t.wfm = { s.wfm with mEnv := ⟨if d[7] then d.extractLsb' 0 6 else s.wfm.mEnv.lvl, 0⟩ } ∧
      t.pnc = s.pnc ∧ SameHostSide s t)

/-- The master write only stores its byte; bits 1:0 are the master level at once (R159). -/
def Obligations.MasterWrite : Prop :=
  ∀ (s : State) (d : Byte), s.live = true →
    ∃ t, exec (.wrMaster d) s = .next t ∧ StoredByte s t 0x087 d ∧ master t.raw = d.extractLsb' 0 2 ∧
      t.wfm = s.wfm ∧ t.pnc = s.pnc ∧ SameHostSide s t

/-- The pulse control writes: the level becomes 15 with DECAY set, else VAL; the rate counter is zeroed; timer and
sequencer stay (R115, R118). -/
def Obligations.PulseControlWrites : Prop :=
  ∀ (s : State) (d : Byte), s.live = true →
    (∃ t, exec (.wrP0ctl d) s = .next t ∧ StoredByte s t 0x100 d ∧
      dutySel (t.raw.byte 0x100) = d.extractLsb' 6 2 ∧
      t.pnc = { s.pnc with p0 := { s.pnc.p0 with env := ⟨if d[4] then 15 else d.extractLsb' 0 4, 0⟩ } } ∧
      t.wfm = s.wfm ∧ SameHostSide s t) ∧
    (∃ t, exec (.wrP1ctl d) s = .next t ∧ StoredByte s t 0x104 d ∧
      dutySel (t.raw.byte 0x104) = d.extractLsb' 6 2 ∧
      t.pnc = { s.pnc with p1 := { s.pnc.p1 with env := ⟨if d[4] then 15 else d.extractLsb' 0 4, 0⟩ } } ∧
      t.wfm = s.wfm ∧ SameHostSide s t)

/-- The four low period writes: the byte is stored, the low eight bits of that channel's period change at once, and
no timer or other element changes (R116, R119, R121, R124). -/
def Obligations.PeriodLowWrites : Prop :=
  ∀ (s : State) (d : Byte), s.live = true →
    (∃ t, exec (.wrP0lo d) s = .next t ∧ StoredByte s t 0x101 d ∧
      (period t.raw 0x101 0x102).toNat = (period s.raw 0x101 0x102).toNat / 256 * 256 + d.toNat ∧
      t.wfm = s.wfm ∧ t.pnc = s.pnc ∧ SameHostSide s t) ∧
    (∃ t, exec (.wrP1lo d) s = .next t ∧ StoredByte s t 0x105 d ∧
      (period t.raw 0x105 0x106).toNat = (period s.raw 0x105 0x106).toNat / 256 * 256 + d.toNat ∧
      t.wfm = s.wfm ∧ t.pnc = s.pnc ∧ SameHostSide s t) ∧
    (∃ t, exec (.wrTlo d) s = .next t ∧ StoredByte s t 0x109 d ∧
      (period t.raw 0x109 0x10A).toNat = (period s.raw 0x109 0x10A).toNat / 256 * 256 + d.toNat ∧
      t.wfm = s.wfm ∧ t.pnc = s.pnc ∧ SameHostSide s t) ∧
    (∃ t, exec (.wrNlo d) s = .next t ∧ StoredByte s t 0x10D d ∧
      (period t.raw 0x10D 0x10E).toNat = (period s.raw 0x10D 0x10E).toNat / 256 * 256 + d.toNat ∧
      t.wfm = s.wfm ∧ t.pnc = s.pnc ∧ SameHostSide s t)

/-- The pulse high writes: bit 7 is the enable, bits 2:0 the high period bits; a write with bit 7 clear zeroes the
timer and the sequencer and leaves the envelope (R117, R120). -/
def Obligations.PulseHighWrites : Prop :=
  ∀ (s : State) (d : Byte), s.live = true →
    (∃ t, exec (.wrP0hi d) s = .next t ∧ StoredByte s t 0x102 d ∧ enabled t.raw 0x102 = d[7] ∧
      (period t.raw 0x101 0x102).toNat = d.toNat % 8 * 256 + (period s.raw 0x101 0x102).toNat % 256 ∧
      t.pnc = { s.pnc with p0 := if d[7] then s.pnc.p0 else ⟨0, 0, s.pnc.p0.env⟩ } ∧
      t.wfm = s.wfm ∧ SameHostSide s t) ∧
    (∃ t, exec (.wrP1hi d) s = .next t ∧ StoredByte s t 0x106 d ∧ enabled t.raw 0x106 = d[7] ∧
      (period t.raw 0x105 0x106).toNat = d.toNat % 8 * 256 + (period s.raw 0x105 0x106).toNat % 256 ∧
      t.pnc = { s.pnc with p1 := if d[7] then s.pnc.p1 else ⟨0, 0, s.pnc.p1.env⟩ } ∧
      t.wfm = s.wfm ∧ SameHostSide s t)

/-- The triangle's high write: a write with bit 7 clear zeroes its timer and sequencer (R122). -/
def Obligations.TriangleHighWrite : Prop :=
  ∀ (s : State) (d : Byte), s.live = true →
    ∃ t, exec (.wrThi d) s = .next t ∧ StoredByte s t 0x10A d ∧ enabled t.raw 0x10A = d[7] ∧
      (period t.raw 0x109 0x10A).toNat = d.toNat % 8 * 256 + (period s.raw 0x109 0x10A).toNat % 256 ∧
      t.pnc = { s.pnc with tri := if d[7] then s.pnc.tri else ⟨0, 0⟩ } ∧ t.wfm = s.wfm ∧ SameHostSide s t

/-- The noise writes: the control write loads the level and zeroes the counter (R123); the high write with bit 7 clear
zeroes the timer and never touches the shift register (R125). -/
def Obligations.NoiseWrites : Prop :=
  ∀ (s : State) (d : Byte), s.live = true →
    (∃ t, exec (.wrNctl d) s = .next t ∧ StoredByte s t 0x10C d ∧
      t.pnc = { s.pnc with noise := { s.pnc.noise with env := ⟨if d[4] then 15 else d.extractLsb' 0 4, 0⟩ } } ∧
      t.wfm = s.wfm ∧ SameHostSide s t) ∧
    (∃ t, exec (.wrNhi d) s = .next t ∧ StoredByte s t 0x10E d ∧ enabled t.raw 0x10E = d[7] ∧
      (period t.raw 0x10D 0x10E).toNat = d.toNat % 8 * 256 + (period s.raw 0x10D 0x10E).toNat % 256 ∧
      t.pnc = { s.pnc with noise := { s.pnc.noise with acc := if d[7] then s.pnc.noise.acc else 0 } } ∧
      t.wfm = s.wfm ∧ SameHostSide s t)

/-! ### ADVANCE -/

/-- An audio step is one step of each unit, and appends the pair of their samples (R94). ADVANCE performs
`(cyc_acc + count) div CPS` audio steps and leaves `(cyc_acc + count) mod CPS` cycles; it writes neither `raw` nor the
read-data stream (R92). -/
def Obligations.AdvanceRunsWholeSteps : Prop :=
  (∀ s : State, audioStep s =
    { s with
      pnc := (pncStep s.cfg s.raw s.pnc).1, wfm := (wfmStep s.cfg s.raw s.wfm).1,
      samples := s.samples ++ [⟨(pncStep s.cfg s.raw s.pnc).2, (wfmStep s.cfg s.raw s.wfm).2⟩] }) ∧
  ∀ (s : State) (n : BitVec 30), s.live = true →
    ∃ t new, exec (.adv n) s = .next t ∧ t.cycAcc = (s.cycAcc + n.toNat) % s.cfg.cps ∧
      t.samples = s.samples ++ new ∧ new.length = (s.cycAcc + n.toNat) / s.cfg.cps ∧
      t = { Nat.iterate audioStep ((s.cycAcc + n.toNat) / s.cfg.cps) s with cycAcc := t.cycAcc } ∧
      t.raw = s.raw ∧ t.reads = s.reads ∧ t.cfg = s.cfg ∧ t.live = s.live ∧ t.pending = s.pending ∧
      t.report = s.report

/-- `ADV 0` changes nothing at a command boundary, where `cyc_acc < CPS` (R33, R92): it is the no-operation (R75). -/
def Obligations.AdvanceZeroChangesNothing : Prop :=
  ∀ s : State, s.live = true → s.cycAcc < s.cfg.cps → exec (.adv 0) s = .next s

/-- `ADV a` followed by `ADV b` has exactly the effect of `ADV a+b`: the spec marks the sentence of R92 that says so,
and R182 (g) and R139 (e), as its own derivations. -/
def Obligations.AdvanceSplitsFreely : Prop :=
  ∀ (s t : State) (a b : BitVec 30), s.live = true → a.toNat + b.toNat < 2 ^ 30 → exec (.adv a) s = .next t →
    exec (.adv b) t = exec (.adv (a + b)) s

/-- The two units share no state (R94): what an ADVANCE does to the one, and the samples it gets from it, do not
depend on the other's state or on what the streams hold. -/
def Obligations.UnitsShareNoState : Prop :=
  ∀ (s s' t t' : State) (n : BitVec 30), s.live = true → s'.live = true → s'.cfg = s.cfg → s'.raw = s.raw →
    s'.cycAcc = s.cycAcc → exec (.adv n) s = .next t → exec (.adv n) s' = .next t' →
    (s'.wfm = s.wfm → t'.wfm = t.wfm ∧
      (t'.samples.drop s'.samples.length).map SamplePair.wfm = (t.samples.drop s.samples.length).map SamplePair.wfm) ∧
    (s'.pnc = s.pnc → t'.pnc = t.pnc ∧
      (t'.samples.drop s'.samples.length).map SamplePair.pnc = (t.samples.drop s.samples.length).map SamplePair.pnc)

/-! ### RESET -/

/-- RESET gives every element its value of R42, in any state, live or not, and keeps the streams (R93). -/
def Obligations.ResetGivesResetValues : Prop :=
  ∀ s : State, ∃ t, exec .rst s = .next t ∧ t.live = true ∧ t.cycAcc = 0 ∧
    (∀ i : Fin 64, t.raw.read i.val = s.cfg.resetCwave[i.val]) ∧
    (∀ i : Fin 64, t.raw.read (64 + i.val) = s.cfg.resetMwave[i.val]) ∧
    (∀ a : Nat, 128 ≤ a → t.raw.read a = 0#8) ∧ Memory.wf t.raw ∧
    t.wfm = ⟨0, 0, 0, ⟨0, 0⟩, ⟨0, 0⟩, 0⟩ ∧
    t.pnc = ⟨⟨0, 0, ⟨0, 0⟩⟩, ⟨0, 0, ⟨0, 0⟩⟩, ⟨0, 0⟩, ⟨0, 1, ⟨0, 0⟩⟩, 0, 0⟩ ∧
    t.samples = s.samples ∧ t.reads = s.reads ∧ t.cfg = s.cfg ∧ t.pending = s.pending ∧ t.report = s.report

/-- The first RESET from any power-on state of a configuration gives the one reset state of that configuration,
whatever the unspecified values were (R220, R221). -/
def Obligations.FirstResetForgetsPowerOnValues : Prop :=
  ∀ s : State, s.PowerOn →
    exec .rst s = .next { State.resetWith s.cfg with pending := s.pending, report := s.report }

/-! ### LVU -/

/-- Every entry of `LOG2LIN` is the largest natural number `t` with `t^4096 <= 2^(122880 - i)` (R100). -/
def Obligations.LogTableIsExact : Prop :=
  ∀ i : BitVec 12, log2lin i ^ 4096 ≤ 2 ^ (122880 - i.toNat) ∧ 2 ^ (122880 - i.toNat) < (log2lin i + 1) ^ 4096

/-- `LIN2LOG[0] = 122880`, and for `x >= 1` the entry is the largest `l` with `2^l x x^4096 <= 2^28672` (R101). -/
def Obligations.LinearTableIsExact : Prop :=
  linearToLog 0 = 122880 ∧ ∀ x : BitVec 7, x ≠ 0 →
    2 ^ linearToLog x * x.toNat ^ 4096 ≤ 2 ^ 28672 ∧ 2 ^ 28672 < 2 ^ (linearToLog x + 1) * x.toNat ^ 4096

/-- The round-trip law, with no error: R105, which the spec marks as derived from R100 to R103. -/
def Obligations.LogRoundTripIsExact : Prop :=
  ∀ x : BitVec 7, logToLinear (linearToLog x) 0 = x.toNat

/-- `LogToLinear`, by quotient and remainder: 0 from `LOG_ZERO` on, else the table entry of the fraction divided by
the power of two of the octave and the shifts (R103). -/
def Obligations.LogToLinearDividesTableEntry : Prop :=
  ∀ (l : Nat) (sft : Int), -23 ≤ sft →
    (122880 ≤ l → logToLinear l sft = 0) ∧
    (l < 122880 → ∃ t : Nat, (t : Int) = (l / 4096 : Nat) + sft + 23 ∧
      logToLinear l sft = log2lin (BitVec.ofNat 12 (l % 4096)) / 2 ^ t)

/-- The scaler is weakly increasing in both factors and weakly decreasing in the gain's attenuation (R182 (h), which
the spec marks as derived), and a zero factor gives exactly 0 (R104). -/
def Obligations.ScalerIsMonotone : Prop :=
  (∀ (a a' b b' : BitVec 7) (g g' : Nat) (sft : Int), -23 ≤ sft → a.toNat ≤ a'.toNat → b.toNat ≤ b'.toNat →
    g' ≤ g → logMul a b g sft ≤ logMul a' b' g' sft) ∧
  (∀ (a b : BitVec 7) (g : Nat) (sft : Int), a = 0 ∨ b = 0 → logMul a b g sft = 0)

/-! ### WFM -/

/-- The repeated correction brings any integer into `-64 .. 63` by multiples of 128, and leaves one that is already
there alone (R175). -/
def Obligations.BiasWrapReachesRange : Prop :=
  ∀ b : Int, -64 ≤ biasWrap b ∧ biasWrap b ≤ 63 ∧ (biasWrap b - b) % 128 = 0 ∧
    (-64 ≤ b → b ≤ 63 → biasWrap b = b)

/-- The bias update by selector: 4 resets, the others add 0, 1, 2, 4, -4, -2, -1 and wrap by at most one 128
(R174, R175). -/
def Obligations.BiasUpdateFollowsTable : Prop :=
  ∀ b : Int, -64 ≤ b → b ≤ 63 →
    biasUpd 0 b = b ∧ biasUpd 1 b = (if b = 63 then -64 else b + 1) ∧
    biasUpd 2 b = (if b > 61 then b - 126 else b + 2) ∧ biasUpd 3 b = (if b > 59 then b - 124 else b + 4) ∧
    biasUpd 4 b = 0 ∧ biasUpd 5 b = (if b < -60 then b + 124 else b - 4) ∧
    biasUpd 6 b = (if b < -62 then b + 126 else b - 2) ∧ biasUpd 7 b = (if b = -64 then 63 else b - 1)

/-- The modulator's advance: its phase moves by `mfreq x CPS` modulo `2^22`, and the selectors of the entries entered,
in table order, update the bias one after the other; disabled, nothing moves (R173). -/
def Obligations.ModulatorAdvanceAppliesEntriesInOrder : Prop :=
  ∀ (c : Cfg) (m : Memory) (u : Wfm),
    (men m = false → wfmModAdv c m u = u) ∧
    (men m = true → ∃ n : Nat,
      n = (u.mPhase.toNat + (mfreq m).toNat * c.cps) / 65536 - u.mPhase.toNat / 65536 ∧
      wfmModAdv c m u =
        { u with
          mPhase := BitVec.ofNat 22 (u.mPhase.toNat + (mfreq m).toNat * c.cps),
          bias := (List.range n).foldl
            (fun b j => biasUpd (msel m (BitVec.ofNat 6 ((u.mPhase.toNat / 65536 + (j + 1)) % 64))) b) u.bias })

/-- The modulation value: floor of the product over 16, corrected by -1 or +2 when 16 does not divide it, wrapped by
-258 or +256 once, and scaled by the carrier's frequency over 64 (R176, R177, R178). -/
def Obligations.ModulationValueFormula : Prop :=
  ∀ (bias : Int) (lvl : BitVec 6) (f : BitVec 12), ∃ q w : Int,
    q = Int.fdiv (bias * lvl.toNat) 16 + (if (16 : Int) ∣ bias * lvl.toNat then 0 else if bias < 0 then -1 else 2) ∧
    w = (if q > 193 then q - 258 else if q < -64 then q + 256 else q) ∧
    modValue bias lvl f = Int.fdiv (w * f.toNat) 64

/-- For a bias in range: the rounded product is in `-252 .. 250`, the wrapped one in `-64 .. 193`, the modulation in
`-4095 .. 12348`, and the combined frequency is never negative: the ranges of R176, R177, R178 and R182 (b), (c),
which the spec marks as derived. -/
def Obligations.ModulationStaysInRange : Prop :=
  ∀ (bias : Int) (lvl : BitVec 6) (f : BitVec 12), -64 ≤ bias → bias ≤ 63 →
    -252 ≤ modRound bias lvl ∧ modRound bias lvl ≤ 250 ∧
    -64 ≤ modWrap (modRound bias lvl) ∧ modWrap (modRound bias lvl) ≤ 193 ∧
    -4095 ≤ modValue bias lvl f ∧ modValue bias lvl f ≤ 12348 ∧ 0 ≤ (f.toNat : Int) + modValue bias lvl f

/-- The carrier's advance: enabled, the phase moves by the combined frequency floored at zero times CPS, modulo
`2^22`; disabled, it does not move (R179). -/
def Obligations.CarrierAdvancesByEffectiveFrequency : Prop :=
  ∀ (c : Cfg) (m : Memory) (mod : Int) (u : Wfm),
    (cen m = false → wfmCarAdv c m mod u = u) ∧
    (cen m = true → ∃ p : Phase, wfmCarAdv c m mod u = { u with cPhase := p } ∧
      ((cfreq m).toNat + mod < 0 → p = u.cPhase) ∧
      (0 ≤ (cfreq m).toNat + mod → (p.toNat : Int) = (u.cPhase.toNat + ((cfreq m).toNat + mod) * c.cps) % 4194304))

/-- One WFM step in the order of R170: the envelope clocks, then the modulator, then the modulation value of the new
bias and level, then the carrier, then the output at the new carrier phase. -/
def Obligations.WfmStepOrder : Prop :=
  ∀ (c : Cfg) (m : Memory) (u : Wfm), ∃ u1 u2 u3 : Wfm,
    u1 = wfmEgClk c m u ∧ u2 = wfmModAdv c m u1 ∧
    u3 = wfmCarAdv c m (modValue u2.bias u1.mEnv.lvl (cfreq m)) u2 ∧ wfmStep c m u = (u3, wfmOut c m u3) ∧
    u3.cEnv = u1.cEnv ∧ u3.mEnv = u1.mEnv ∧ u3.egAcc = u1.egAcc ∧ u3.bias = u2.bias ∧ u3.mPhase = u2.mPhase

/-- The envelope clock loses nothing: over any ADVANCE both envelopes get exactly
`(eg_acc + steps x (CPS << EG_FRAC_BITS)) div EG_PERIOD_FX` clocks, and the remainder stays in `eg_acc` (R171). -/
def Obligations.EnvelopeClocksNeverDrift : Prop :=
  ∀ (s t : State) (n : BitVec 30), s.live = true → s.wfm.egAcc < s.cfg.egPeriodFx → exec (.adv n) s = .next t →
    t.wfm.egAcc = (s.wfm.egAcc + s.stepsIn n * (s.cfg.cps * 2 ^ s.cfg.egFracBits)) % s.cfg.egPeriodFx ∧
    t.wfm.cEnv = Nat.iterate (wfmEgTick (s.raw.byte aCVOL))
      ((s.wfm.egAcc + s.stepsIn n * (s.cfg.cps * 2 ^ s.cfg.egFracBits)) / s.cfg.egPeriodFx) s.wfm.cEnv ∧
    t.wfm.mEnv = Nat.iterate (wfmEgTick (s.raw.byte aMVOL))
      ((s.wfm.egAcc + s.stepsIn n * (s.cfg.cps * 2 ^ s.cfg.egFracBits)) / s.cfg.egPeriodFx) s.wfm.mEnv

/-- One envelope clock, of a WFM envelope whose volume register holds `reg` (R172) and of a PNC envelope whose control
register holds `ctl` (R132): fixed or constant, nothing; below the rate limit the counter counts; at it the counter is
zeroed and the level moves one step, up to 31 or down to 0. -/
def Obligations.EnvelopeTickRules : Prop :=
  (∀ (reg : Byte) (e : WfmEnv),
    (reg[7] = true → wfmEgTick reg e = e) ∧
    (reg[7] = false → e.cnt.toNat < reg.toNat % 64 →
      (wfmEgTick reg e).cnt.toNat = e.cnt.toNat + 1 ∧ (wfmEgTick reg e).lvl = e.lvl) ∧
    (reg[7] = false → reg.toNat % 64 ≤ e.cnt.toNat → (wfmEgTick reg e).cnt = 0 ∧
      (wfmEgTick reg e).lvl.toNat =
        if reg[6] then (if e.lvl.toNat < 31 then e.lvl.toNat + 1 else e.lvl.toNat) else e.lvl.toNat - 1)) ∧
  (∀ (ctl : Byte) (e : PncEnv),
    (ctl[4] = false → pncEnvTick ctl e = e) ∧
    (ctl[4] = true → e.cnt.toNat < ctl.toNat % 16 →
      (pncEnvTick ctl e).cnt.toNat = e.cnt.toNat + 1 ∧ (pncEnvTick ctl e).lvl = e.lvl) ∧
    (ctl[4] = true → ctl.toNat % 16 ≤ e.cnt.toNat →
      (pncEnvTick ctl e).cnt = 0 ∧ (pncEnvTick ctl e).lvl.toNat = e.lvl.toNat - 1))

/-- With its envelope disabled (MODE = 1) a level never changes across any ADVANCE (R183 (a), which the spec marks as
derived). -/
def Obligations.FixedVolumeNeverMoves : Prop :=
  ∀ (s t : State) (n : BitVec 30), s.live = true → exec (.adv n) s = .next t →
    ((s.raw.byte aCVOL)[7] = true → t.wfm.cEnv = s.wfm.cEnv) ∧
    ((s.raw.byte aMVOL)[7] = true → t.wfm.mEnv = s.wfm.mEnv)

/-- The ramp laws (R183 (b) to (d), which the spec marks as derived): after `t` envelope clocks from a zeroed counter
with rate `r`, a ramp up from `L <= 31` is at `min(31, L + t div (r + 1))`, a ramp up from above 31 stays, and a ramp
down is at `max(0, L - t div (r + 1))`. -/
def Obligations.EnvelopeRampLaws : Prop :=
  ∀ (reg : Byte) (e : WfmEnv) (t : Nat), reg[7] = false → e.cnt = 0 →
    (reg[6] = true → e.lvl.toNat ≤ 31 →
      (Nat.iterate (wfmEgTick reg) t e).lvl.toNat = min 31 (e.lvl.toNat + t / (reg.toNat % 64 + 1))) ∧
    (reg[6] = true → 31 ≤ e.lvl.toNat → (Nat.iterate (wfmEgTick reg) t e).lvl = e.lvl) ∧
    (reg[6] = false →
      (Nat.iterate (wfmEgTick reg) t e).lvl.toNat = e.lvl.toNat - t / (reg.toNat % 64 + 1))

/-- The sample is the scaler's product of the table entry at the carrier's phase and the level capped at VOL_CEIL,
saturated at 32767 as a signed 16-bit number, never negative (R180, R181). -/
def Obligations.WfmSampleIsSaturatedProduct : Prop :=
  ∀ (c : Cfg) (m : Memory) (u : Wfm),
    (wfmOut c m u).toInt =
      min 32767 (logToLinear (linearToLog (BitVec.ofNat 7 (cwave m (BitVec.ofNat 6 (u.cPhase.toNat / 65536))).toNat) +
        linearToLog (BitVec.ofNat 7 (min u.cEnv.lvl.toNat c.volCeil.toNat)) + mgain c (master m)) c.outShift) ∧
    0 ≤ (wfmOut c m u).toInt

/-- The end-to-end law (R182 (d), (f), which the spec marks as derived): an enabled carrier in fixed mode with the
modulator off plays its table: the `k`-th step of any ADVANCE outputs the scaled entry at phase `c_phase + (k + 1) x
cfreq x CPS`. -/
def Obligations.UnmodulatedCarrierPlaysItsTable : Prop :=
  ∀ (s t : State) (n : BitVec 30), s.live = true → cen s.raw = true → men s.raw = false → s.wfm.bias = 0 →
    fixedMode (s.raw.byte aCVOL) = true → exec (.adv n) s = .next t →
    t.wfm.cPhase.toNat = (s.wfm.cPhase.toNat + s.stepsIn n * (cfreq s.raw).toNat * s.cfg.cps) % 4194304 ∧
    t.samples.map SamplePair.wfm = s.samples.map SamplePair.wfm ++ (List.range (s.stepsIn n)).map fun k =>
      BitVec.ofNat 16 (min 32767 (logMul
        (BitVec.ofNat 7 (cwave s.raw
          (BitVec.ofNat 6 ((s.wfm.cPhase.toNat + (k + 1) * (cfreq s.raw).toNat * s.cfg.cps) / 65536 % 64))).toNat)
        (BitVec.ofNat 7 (min s.wfm.cEnv.lvl.toNat s.cfg.volCeil.toNat)) (mgain s.cfg (master s.raw)) s.cfg.outShift))

/-! ### PNC -/

/-- The period timer loses nothing: what it keeps and the `period + 1` clocks of each step it makes add up to what it
was given, and it keeps at most `period` (R133). -/
def Obligations.TimerCountsExactly : Prop :=
  ∀ (acc per : BitVec 11) (k : Nat),
    (pncTimer acc per k).1.toNat + (per.toNat + 1) * (pncTimer acc per k).2 = acc.toNat + k ∧
    (pncTimer acc per k).1.toNat ≤ per.toNat

/-- A PNC envelope from a zeroed counter: decaying with limit `r` it is at `max(0, L - t div (r + 1))` after `t`
envelope clocks; constant it never moves (R132). -/
def Obligations.PncEnvelopeDecayLaw : Prop :=
  ∀ (ctl : Byte) (e : PncEnv) (t : Nat),
    (ctl[4] = true → e.cnt = 0 →
      (Nat.iterate (pncEnvTick ctl) t e).lvl.toNat = e.lvl.toNat - t / (ctl.toNat % 16 + 1)) ∧
    (ctl[4] = false → Nat.iterate (pncEnvTick ctl) t e = e)

/-- The PNC clocks lose nothing: over any ADVANCE, with `K = (pnc_div_acc + steps x CPS) div PNC_DIV` internal clocks,
every envelope gets `(pnc_env_acc + K) div PNC_ENV_PERIOD` clocks and both remainders are kept (R130, R131). -/
def Obligations.PncClocksNeverDrift : Prop :=
  ∀ (s t : State) (n : BitVec 30), s.live = true → s.pnc.divAcc < s.cfg.pncDiv →
    s.pnc.envAcc < s.cfg.pncEnvPeriod → exec (.adv n) s = .next t →
    t.pnc.divAcc = (s.pnc.divAcc + s.stepsIn n * s.cfg.cps) % s.cfg.pncDiv ∧
    t.pnc.envAcc = (s.pnc.envAcc + s.clocksIn (s.stepsIn n)) % s.cfg.pncEnvPeriod ∧
    t.pnc.p0.env = Nat.iterate (pncEnvTick (s.raw.byte aP0CTL))
      ((s.pnc.envAcc + s.clocksIn (s.stepsIn n)) / s.cfg.pncEnvPeriod) s.pnc.p0.env ∧
    t.pnc.p1.env = Nat.iterate (pncEnvTick (s.raw.byte aP1CTL))
      ((s.pnc.envAcc + s.clocksIn (s.stepsIn n)) / s.cfg.pncEnvPeriod) s.pnc.p1.env ∧
    t.pnc.noise.env = Nat.iterate (pncEnvTick (s.raw.byte aNCTL))
      ((s.pnc.envAcc + s.clocksIn (s.stepsIn n)) / s.cfg.pncEnvPeriod) s.pnc.noise.env

/-- Oscillator position over any ADVANCE (R139 (f), which the spec marks as derived, for every oscillator): an enabled
channel of period `P` whose timer is in range makes `(acc + K) div (P + 1)` sequencer steps in `K` internal clocks and
keeps the remainder. -/
def Obligations.OscillatorsAdvanceExactly : Prop :=
  ∀ (s t : State) (n : BitVec 30), s.live = true → s.pnc.divAcc < s.cfg.pncDiv → exec (.adv n) s = .next t →
    (enabled s.raw aP0HI = true → s.pnc.p0.acc.toNat ≤ (period s.raw aP0LO aP0HI).toNat →
      t.pnc.p0.acc.toNat =
        (s.pnc.p0.acc.toNat + s.clocksIn (s.stepsIn n)) % ((period s.raw aP0LO aP0HI).toNat + 1) ∧
      t.pnc.p0.seq.toNat = (s.pnc.p0.seq.toNat +
        (s.pnc.p0.acc.toNat + s.clocksIn (s.stepsIn n)) / ((period s.raw aP0LO aP0HI).toNat + 1)) % 8) ∧
    (enabled s.raw aP1HI = true → s.pnc.p1.acc.toNat ≤ (period s.raw aP1LO aP1HI).toNat →
      t.pnc.p1.acc.toNat =
        (s.pnc.p1.acc.toNat + s.clocksIn (s.stepsIn n)) % ((period s.raw aP1LO aP1HI).toNat + 1) ∧
      t.pnc.p1.seq.toNat = (s.pnc.p1.seq.toNat +
        (s.pnc.p1.acc.toNat + s.clocksIn (s.stepsIn n)) / ((period s.raw aP1LO aP1HI).toNat + 1)) % 8) ∧
    (enabled s.raw aTHI = true → s.pnc.tri.acc.toNat ≤ (period s.raw aTLO aTHI).toNat →
      t.pnc.tri.acc.toNat =
        (s.pnc.tri.acc.toNat + s.clocksIn (s.stepsIn n)) % ((period s.raw aTLO aTHI).toNat + 1) ∧
      t.pnc.tri.seq.toNat = (s.pnc.tri.seq.toNat +
        (s.pnc.tri.acc.toNat + s.clocksIn (s.stepsIn n)) / ((period s.raw aTLO aTHI).toNat + 1)) % 32) ∧
    (enabled s.raw aNHI = true → s.pnc.noise.acc.toNat ≤ (period s.raw aNLO aNHI).toNat →
      t.pnc.noise.acc.toNat =
        (s.pnc.noise.acc.toNat + s.clocksIn (s.stepsIn n)) % ((period s.raw aNLO aNHI).toNat + 1) ∧
      t.pnc.noise.lfsr = Nat.iterate lfsrShift
        ((s.pnc.noise.acc.toNat + s.clocksIn (s.stepsIn n)) / ((period s.raw aNLO aNHI).toNat + 1)) s.pnc.noise.lfsr)

/-- With all four channels disabled no timer, sequencer or shift register moves and every PNC sample is 0
(R139 (a), which the spec marks as derived). -/
def Obligations.DisabledChannelsAreSilent : Prop :=
  ∀ (s t : State) (n : BitVec 30), s.live = true → enabled s.raw aP0HI = false → enabled s.raw aP1HI = false →
    enabled s.raw aTHI = false → enabled s.raw aNHI = false → exec (.adv n) s = .next t →
    t.pnc.p0.acc = s.pnc.p0.acc ∧ t.pnc.p0.seq = s.pnc.p0.seq ∧ t.pnc.p1.acc = s.pnc.p1.acc ∧
    t.pnc.p1.seq = s.pnc.p1.seq ∧ t.pnc.tri = s.pnc.tri ∧ t.pnc.noise.acc = s.pnc.noise.acc ∧
    t.pnc.noise.lfsr = s.pnc.noise.lfsr ∧
    t.samples.map SamplePair.pnc = s.samples.map SamplePair.pnc ++ List.replicate (s.stepsIn n) 0#16

/-- The pulse waveform: sampled after the advance, the output is the level at the positions below DUTY_HIGH of the
duty selector and 0 at the others; disabled, 0 without moving (R134). -/
def Obligations.PulseOutputFollowsDuty : Prop :=
  ∀ (c : Cfg) (m : Memory) (ctl lo hi : Addr) (k : Nat) (p : Pulse),
    (enabled m hi = false → pncPulse c m ctl lo hi k p = (p, 0)) ∧
    (enabled m hi = true →
      (pncPulse c m ctl lo hi k p).1.seq.toNat = (p.seq.toNat + (pncTimer p.acc (period m lo hi) k).2) % 8 ∧
      (pncPulse c m ctl lo hi k p).1.acc = (pncTimer p.acc (period m lo hi) k).1 ∧
      (pncPulse c m ctl lo hi k p).1.env = p.env ∧
      (pncPulse c m ctl lo hi k p).2 =
        if (pncPulse c m ctl lo hi k p).1.seq.toNat < dutyHigh c ((m.byte ctl).extractLsb' 6 2)
        then p.env.lvl.toNat else 0)

/-- The triangle's 32 outputs are the sequence of R135, and it is sampled after its advance; disabled it outputs 0. -/
def Obligations.TriangleOutputFollowsSequence : Prop :=
  ((List.range 32).map fun s => triSeq (BitVec.ofNat 5 s)) =
    [15, 14, 13, 12, 11, 10, 9, 8, 7, 6, 5, 4, 3, 2, 1, 0, 0, 1, 2, 3, 4, 5, 6, 7, 8, 9, 10, 11, 12, 13, 14, 15] ∧
  ∀ (m : Memory) (k : Nat) (t : Triangle),
    (enabled m aTHI = false → pncTri m k t = (t, 0)) ∧
    (enabled m aTHI = true →
      (pncTri m k t).1.seq.toNat = (t.seq.toNat + (pncTimer t.acc (period m aTLO aTHI) k).2) % 32 ∧
      (pncTri m k t).1.acc = (pncTimer t.acc (period m aTLO aTHI) k).1 ∧
      (pncTri m k t).2 = triSeq (pncTri m k t).1.seq)

/-- The noise register: one shift is a bijection that fixes 0, so it never reaches 0 from another value; from the seed
1 it comes back to 1 after 32767 shifts and not before (R136). -/
def Obligations.ShiftRegisterHasFullPeriod : Prop :=
  (∀ l l' : BitVec 15, lfsrShift l = lfsrShift l' → l = l') ∧ (∀ l : BitVec 15, lfsrShift l = 0 ↔ l = 0) ∧
  Nat.iterate lfsrShift 32767 1 = 1 ∧ ∀ n : Nat, 0 < n → n < 32767 → Nat.iterate lfsrShift n 1 ≠ 1

/-- The noise channel: its register shifts once per sequencer step, and after the shifts the output is the level when
bit 0 is 0, else 0; disabled, 0 without moving. One shift moves every bit down and puts bit 0 xor bit 1 at the top
(R136). -/
def Obligations.NoiseOutputFollowsShiftRegister : Prop :=
  (∀ l : BitVec 15, (lfsrShift l).toNat = l.toNat / 2 + (if l[0] = l[1] then 0 else 16384)) ∧
  ∀ (m : Memory) (k : Nat) (x : Noise),
    (enabled m aNHI = false → pncNoise m k x = (x, 0)) ∧
    (enabled m aNHI = true →
      (pncNoise m k x).1.acc = (pncTimer x.acc (period m aNLO aNHI) k).1 ∧
      (pncNoise m k x).1.lfsr = Nat.iterate lfsrShift (pncTimer x.acc (period m aNLO aNHI) k).2 x.lfsr ∧
      (pncNoise m k x).1.env = x.env ∧
      (pncNoise m k x).2 = if (pncNoise m k x).1.lfsr.toNat % 2 = 0 then x.env.lvl.toNat else 0)

/-- One PNC step in the order of R138: the internal clocks of R130, the envelope clocks, then each oscillator with the
new envelopes. Each output is at most 15, so the sample, PNC_GAIN times their sum, is never negative, at most
`60 x PNC_GAIN`, and fits a signed 16-bit sample exactly (R137). -/
def Obligations.PncStepMixesScaledSum : Prop :=
  ∀ (c : Cfg) (m : Memory) (u : Pnc), ∃ (k : Nat) (v : Pnc) (r0 r1 : Pulse × Nat) (rt : Triangle × Nat)
      (rn : Noise × Nat),
    k = (u.divAcc + c.cps) / c.pncDiv ∧
    v = pncEnvClk c m k { u with divAcc := (u.divAcc + c.cps) % c.pncDiv } ∧
    r0 = pncPulse c m aP0CTL aP0LO aP0HI k v.p0 ∧ r1 = pncPulse c m aP1CTL aP1LO aP1HI k v.p1 ∧
    rt = pncTri m k v.tri ∧ rn = pncNoise m k v.noise ∧
    (pncStep c m u).1 = { v with p0 := r0.1, p1 := r1.1, tri := rt.1, noise := rn.1 } ∧
    r0.2 ≤ 15 ∧ r1.2 ≤ 15 ∧ rt.2 ≤ 15 ∧ rn.2 ≤ 15 ∧
    (pncStep c m u).2.toInt = (c.pncGain * (r0.2 + r1.2 + rt.2 + rn.2) : Nat) ∧
    0 ≤ (pncStep c m u).2.toInt ∧ (pncStep c m u).2.toInt ≤ (60 * c.pncGain : Nat)

/-! ### The invariant -/

/-- The invariant of R46 (which the spec marks as derived) holds in the state after RESET, of every configuration. -/
def Obligations.InvariantHoldsAfterReset : Prop :=
  (∀ c : Cfg, (State.resetWith c).Regular) ∧ State.reset.Inv

/-- Every step keeps the invariant of R46, which the spec marks as derived: bias in range, disabled oscillators at
phase 0, counters within their rates, fixed levels equal to their register, remainders below their periods, the shift
register not 0, and the register file in canonical form. -/
def Obligations.InvariantKeptByEveryStep : Prop :=
  ∀ s t : State, s.Inv → step s = .next t → t.Inv

/-! ### Assembler -/

/-- The frequency and period pseudo-instructions do what their names say: performed in order on a live block, their
expansions leave the 12-bit frequency, or the 11-bit period, and the enable bit that were asked for (R81, R223). -/
def Obligations.PseudoInstructionsSetFrequencies : Prop :=
  ∀ (s : State) (f : BitVec 12) (p : BitVec 11) (en : Bool), s.live = true →
    (∃ i j t u, Pseudo.expand s.cfg (.cfreq f en) = some [i, j] ∧ exec i s = .next t ∧ exec j t = .next u ∧
      cfreq u.raw = f ∧ cen u.raw = en) ∧
    (∃ i j t u, Pseudo.expand s.cfg (.mfreq f) = some [i, j] ∧ exec i s = .next t ∧ exec j t = .next u ∧
      mfreq u.raw = f) ∧
    (∃ i j t u, Pseudo.expand s.cfg (.pper false p en) = some [i, j] ∧ exec i s = .next t ∧ exec j t = .next u ∧
      period u.raw aP0LO aP0HI = p ∧ enabled u.raw aP0HI = en) ∧
    (∃ i j t u, Pseudo.expand s.cfg (.pper true p en) = some [i, j] ∧ exec i s = .next t ∧ exec j t = .next u ∧
      period u.raw aP1LO aP1HI = p ∧ enabled u.raw aP1HI = en) ∧
    (∃ i j t u, Pseudo.expand s.cfg (.tper p en) = some [i, j] ∧ exec i s = .next t ∧ exec j t = .next u ∧
      period u.raw aTLO aTHI = p ∧ enabled u.raw aTHI = en) ∧
    (∃ i j t u, Pseudo.expand s.cfg (.nper p en) = some [i, j] ∧ exec i s = .next t ∧ exec j t = .next u ∧
      period u.raw aNLO aNHI = p ∧ enabled u.raw aNHI = en)
end

