-- ==== Sys2Proof/Laws/Memory.lean ====
section
/-! SUPPORT. The laws of the register file: read after write, and that every operation keeps the canonical form. -/

namespace Sys2Proof.Machine

/-- Erasing, cell by cell. -/
theorem Memory.erase_cons (c : Host.Cell) (rest : Memory) (a : Nat) :
    Memory.erase (c :: rest) a = if c.1 = a then Memory.erase rest a else c :: Memory.erase rest a := by
  unfold Memory.erase
  by_cases hc : c.1 = a <;> simp [hc]

/-- Away from the erased address, erasing changes no read. -/
theorem Memory.read_erase_other (m : Memory) {a b : Nat} (h : b ≠ a) :
    Memory.read (m.erase a) b = Memory.read m b := by
  induction m with
  | nil => rfl
  | cons c rest ih =>
    rw [Memory.erase_cons]
    split
    · next hc => simp [Memory.read, ih, hc, h.symm]
    · simp [Memory.read, ih]

/-- The erased address reads as unlisted. -/
theorem Memory.read_erase_same (m : Memory) (a : Nat) :
    Memory.read (m.erase a) a = Memory.unlisted := by
  induction m with
  | nil => rfl
  | cons c rest ih =>
    rw [Memory.erase_cons]
    split
    · exact ih
    · next hc => simp [Memory.read, ih, hc]

/-- Away from the inserted address, inserting changes no read. -/
theorem Memory.read_insert_other (m : Memory) {a b : Nat} (v : Byte) (h : b ≠ a) :
    Memory.read (m.insert a v) b = Memory.read m b := by
  induction m with
  | nil => simp [Memory.insert, Memory.read, h.symm]
  | cons c rest ih =>
    unfold Memory.insert
    split
    · simp [Memory.read, h.symm]
    · simp [Memory.read, ih]

/-- The inserted address reads as the inserted byte, where no cell had that address. -/
theorem Memory.read_insert_same (m : Memory) (a : Nat) (v : Byte) (h : ∀ c ∈ m, c.1 ≠ a) :
    Memory.read (m.insert a v) a = v := by
  induction m with
  | nil => simp [Memory.insert, Memory.read]
  | cons c rest ih =>
    unfold Memory.insert
    split
    · simp [Memory.read]
    · have hc := h c (by simp)
      simp [Memory.read, hc, ih fun d hd => h d (by simp [hd])]

theorem Memory.mem_erase {m : Memory} {a : Nat} {c : Host.Cell} :
    c ∈ m.erase a ↔ c ∈ m ∧ c.1 ≠ a := by simp [Memory.erase]

/-- Reading the written address gives the written byte. -/
theorem Memory.read_write_same (m : Memory) (a : Nat) (v : Byte) :
    Memory.read (m.write a v) a = v := by
  unfold Memory.write
  split
  · next h => rw [Memory.read_erase_same, h]
  · exact Memory.read_insert_same _ _ _ fun c hc => (Memory.mem_erase.mp hc).2

/-- Reading any other address gives what it gave before. -/
theorem Memory.read_write_other (m : Memory) {a b : Nat} (v : Byte) (h : b ≠ a) :
    Memory.read (m.write a v) b = Memory.read m b := by
  unfold Memory.write
  split
  · exact Memory.read_erase_other m h
  · rw [Memory.read_insert_other _ _ h, Memory.read_erase_other _ h]

/-- A read after a write, by address. -/
theorem Memory.byte_write (m : Memory) (a b : Addr) (v : Byte) :
    Memory.byte (m.write a.toNat v) b = if b = a then v else m.byte b := by
  unfold Memory.byte
  split
  · next h => rw [h, Memory.read_write_same]
  · next h => exact Memory.read_write_other _ _ fun e => h (BitVec.eq_of_toNat_eq e)

theorem Memory.mem_insert {m : Memory} {a : Nat} {v : Byte} {c : Host.Cell} :
    c ∈ m.insert a v ↔ c = (a, v) ∨ c ∈ m := by
  induction m with
  | nil => simp [Memory.insert]
  | cons d rest ih =>
    unfold Memory.insert
    split
    · simp
    · simp [ih]; tauto

/-- Inserting at a free address keeps the addresses strictly rising. -/
theorem Memory.insert_rising (m : Memory) (a : Nat) (v : Byte)
    (h : m.Pairwise (fun c d => c.1 < d.1)) (ha : ∀ c ∈ m, c.1 ≠ a) :
    (m.insert a v).Pairwise (fun c d => c.1 < d.1) := by
  induction m with
  | nil => simp [Memory.insert]
  | cons c rest ih =>
    obtain ⟨hc, hr⟩ := List.pairwise_cons.mp h
    unfold Memory.insert
    split
    · next hlt =>
      refine List.pairwise_cons.mpr ⟨fun d hd => ?_, h⟩
      rcases List.mem_cons.mp hd with rfl | hd
      · exact hlt
      · exact hlt.trans (hc d hd)
    · next hge =>
      have hne := ha c (by simp)
      refine List.pairwise_cons.mpr ⟨fun d hd => ?_, ih hr fun d hd => ha d (by simp [hd])⟩
      rcases Memory.mem_insert.mp hd with rfl | hd
      · change c.1 < a
        omega
      · exact hc d hd

/-- Erasing keeps the canonical form. -/
theorem Memory.erase_wf (m : Memory) (a : Nat) (h : Memory.wf m) : Memory.wf (m.erase a) :=
  ⟨h.1.filter _, fun c hc => h.2 c (Memory.mem_erase.mp hc).1⟩

/-- Writing to an implemented address keeps the canonical form. -/
theorem Memory.write_wf (m : Memory) (a : Addr) (v : Byte) (ha : implemented a = true) (h : Memory.wf m) :
    Memory.wf (m.write a.toNat v) := by
  unfold Memory.write
  split
  · exact Memory.erase_wf m _ h
  · next hv =>
    have he := Memory.erase_wf m a.toNat h
    refine ⟨Memory.insert_rising _ _ _ he.1 fun c hc => (Memory.mem_erase.mp hc).2, fun c hc => ?_⟩
    rcases Memory.mem_insert.mp hc with rfl | hc
    · exact ⟨hv, a.isLt, by simpa using ha⟩
    · exact he.2 c hc

theorem implemented_low {n : Nat} (h : n < 128) : implemented (BitVec.ofNat 9 n) = true := by
  have : (BitVec.ofNat 9 n).toNat = n := by simp; omega
  unfold implemented
  rw [this]
  simp only [Bool.or_eq_true, decide_eq_true_eq]
  left; omega

/-- A cell of an image lies in its range and holds a listed byte. -/
theorem Memory.mem_image {base : Nat} {bytes : List Byte} {c : Host.Cell} (h : c ∈ Memory.image base bytes) :
    base ≤ c.1 ∧ c.1 < base + bytes.length ∧ c.2 ≠ Memory.unlisted := by
  induction bytes generalizing base with
  | nil => simp [Memory.image] at h
  | cons v rest ih =>
    unfold Memory.image at h
    split at h
    · have := ih h
      refine ⟨by omega, ?_, this.2.2⟩
      simp only [List.length_cons]; omega
    · next hv =>
      rcases List.mem_cons.mp h with rfl | h
      · simp [hv]
      · have := ih h
        refine ⟨by omega, ?_, this.2.2⟩
        simp only [List.length_cons]; omega

/-- An image's addresses are strictly rising. -/
theorem Memory.image_rising (base : Nat) (bytes : List Byte) :
    (Memory.image base bytes).Pairwise (fun c d => c.1 < d.1) := by
  induction bytes generalizing base with
  | nil => simp [Memory.image]
  | cons v rest ih =>
    unfold Memory.image
    split
    · exact ih _
    · exact List.pairwise_cons.mpr ⟨fun d hd => (Memory.mem_image hd).1, ih _⟩

/-- Where no cell has an address, it reads as unlisted. -/
theorem Memory.read_absent {m : Memory} {a : Nat} (h : ∀ c ∈ m, c.1 ≠ a) : Memory.read m a = Memory.unlisted := by
  induction m with
  | nil => rfl
  | cons c rest ih => simp [Memory.read, h c (by simp), ih fun d hd => h d (by simp [hd])]

/-- An image reads as its bytes. -/
theorem Memory.read_image (base : Nat) (bytes : List Byte) (i : Nat) (hi : i < bytes.length) :
    Memory.read (Memory.image base bytes) (base + i) = bytes[i] := by
  induction bytes generalizing base i with
  | nil => simp at hi
  | cons v rest ih =>
    unfold Memory.image
    cases i with
    | zero =>
      split
      · next hv =>
        rw [Memory.read_absent fun c hc e => ?_]
        · simp [hv]
        · have := (Memory.mem_image hc).1
          omega
      · simp [Memory.read]
    | succ j =>
      have hj : j < rest.length := by simpa using hi
      have e : base + (j + 1) = base + 1 + j := by omega
      split
      · rw [e, ih _ _ hj]; simp
      · rw [e, Memory.read, if_neg (by change ¬base = base + 1 + j; omega), ih _ _ hj]; simp

/-- The reset image has the canonical form. -/
theorem Memory.resetImage_wf (c : Cfg) : Memory.wf (Memory.resetImage c) := by
  refine ⟨Memory.image_rising _ _, fun x hx => ?_⟩
  have h := Memory.mem_image hx
  simp only [List.length_append, Vector.length_toList] at h
  exact ⟨h.2.2, by omega, implemented_low (by omega)⟩

/-- Beyond the waveform tables the reset image reads 0. -/
theorem Memory.read_resetImage_high (c : Cfg) {a : Nat} (h : 128 ≤ a) :
    Memory.read (Memory.resetImage c) a = 0#8 :=
  Memory.read_absent fun x hx e => by
    have := Memory.mem_image hx
    simp only [List.length_append, Vector.length_toList] at this
    omega

end Sys2Proof.Machine
end

