-- ==== Sys2Proof/Laws/State.lean ====
section
/-! SUPPORT. One lemma per field of State per update, so that no proof unfolds a record update. -/

namespace Sys2Proof.Machine

/-! ### store -/

@[simp] theorem State.store_cfg (s : State) (a : Addr) (v : Byte) :
    (s.store a v).cfg = s.cfg := rfl
@[simp] theorem State.store_live (s : State) (a : Addr) (v : Byte) :
    (s.store a v).live = s.live := rfl
@[simp] theorem State.store_cycAcc (s : State) (a : Addr) (v : Byte) :
    (s.store a v).cycAcc = s.cycAcc := rfl
@[simp] theorem State.store_raw (s : State) (a : Addr) (v : Byte) :
    (s.store a v).raw = s.raw.write a.toNat v := rfl
@[simp] theorem State.store_wfm (s : State) (a : Addr) (v : Byte) :
    (s.store a v).wfm = s.wfm := rfl
@[simp] theorem State.store_pnc (s : State) (a : Addr) (v : Byte) :
    (s.store a v).pnc = s.pnc := rfl
@[simp] theorem State.store_samples (s : State) (a : Addr) (v : Byte) :
    (s.store a v).samples = s.samples := rfl
@[simp] theorem State.store_reads (s : State) (a : Addr) (v : Byte) :
    (s.store a v).reads = s.reads := rfl
@[simp] theorem State.store_pending (s : State) (a : Addr) (v : Byte) :
    (s.store a v).pending = s.pending := rfl
@[simp] theorem State.store_report (s : State) (a : Addr) (v : Byte) :
    (s.store a v).report = s.report := rfl

/-! ### refuse -/

@[simp] theorem State.refuse_cfg (s : State) (why : PortRefusal) :
    (s.refuse why).cfg = s.cfg := rfl
@[simp] theorem State.refuse_live (s : State) (why : PortRefusal) :
    (s.refuse why).live = s.live := rfl
@[simp] theorem State.refuse_cycAcc (s : State) (why : PortRefusal) :
    (s.refuse why).cycAcc = s.cycAcc := rfl
@[simp] theorem State.refuse_raw (s : State) (why : PortRefusal) :
    (s.refuse why).raw = s.raw := rfl
@[simp] theorem State.refuse_wfm (s : State) (why : PortRefusal) :
    (s.refuse why).wfm = s.wfm := rfl
@[simp] theorem State.refuse_pnc (s : State) (why : PortRefusal) :
    (s.refuse why).pnc = s.pnc := rfl
@[simp] theorem State.refuse_samples (s : State) (why : PortRefusal) :
    (s.refuse why).samples = s.samples := rfl
@[simp] theorem State.refuse_reads (s : State) (why : PortRefusal) :
    (s.refuse why).reads = s.reads := rfl
@[simp] theorem State.refuse_pending (s : State) (why : PortRefusal) :
    (s.refuse why).pending = s.pending := rfl
@[simp] theorem State.refuse_report (s : State) (why : PortRefusal) :
    (s.refuse why).report = some why := rfl

/-! ### emitRead -/

@[simp] theorem State.emitRead_cfg (s : State) (v : Byte) :
    (s.emitRead v).cfg = s.cfg := rfl
@[simp] theorem State.emitRead_live (s : State) (v : Byte) :
    (s.emitRead v).live = s.live := rfl
@[simp] theorem State.emitRead_cycAcc (s : State) (v : Byte) :
    (s.emitRead v).cycAcc = s.cycAcc := rfl
@[simp] theorem State.emitRead_raw (s : State) (v : Byte) :
    (s.emitRead v).raw = s.raw := rfl
@[simp] theorem State.emitRead_wfm (s : State) (v : Byte) :
    (s.emitRead v).wfm = s.wfm := rfl
@[simp] theorem State.emitRead_pnc (s : State) (v : Byte) :
    (s.emitRead v).pnc = s.pnc := rfl
@[simp] theorem State.emitRead_samples (s : State) (v : Byte) :
    (s.emitRead v).samples = s.samples := rfl
@[simp] theorem State.emitRead_reads (s : State) (v : Byte) :
    (s.emitRead v).reads = s.reads ++ [v] := rfl
@[simp] theorem State.emitRead_pending (s : State) (v : Byte) :
    (s.emitRead v).pending = s.pending := rfl
@[simp] theorem State.emitRead_report (s : State) (v : Byte) :
    (s.emitRead v).report = s.report := rfl

/-! ### emitSample -/

@[simp] theorem State.emitSample_cfg (s : State) (p w : Sample) :
    (s.emitSample p w).cfg = s.cfg := rfl
@[simp] theorem State.emitSample_live (s : State) (p w : Sample) :
    (s.emitSample p w).live = s.live := rfl
@[simp] theorem State.emitSample_cycAcc (s : State) (p w : Sample) :
    (s.emitSample p w).cycAcc = s.cycAcc := rfl
@[simp] theorem State.emitSample_raw (s : State) (p w : Sample) :
    (s.emitSample p w).raw = s.raw := rfl
@[simp] theorem State.emitSample_wfm (s : State) (p w : Sample) :
    (s.emitSample p w).wfm = s.wfm := rfl
@[simp] theorem State.emitSample_pnc (s : State) (p w : Sample) :
    (s.emitSample p w).pnc = s.pnc := rfl
@[simp] theorem State.emitSample_samples (s : State) (p w : Sample) :
    (s.emitSample p w).samples = s.samples ++ [⟨p, w⟩] := rfl
@[simp] theorem State.emitSample_reads (s : State) (p w : Sample) :
    (s.emitSample p w).reads = s.reads := rfl
@[simp] theorem State.emitSample_pending (s : State) (p w : Sample) :
    (s.emitSample p w).pending = s.pending := rfl
@[simp] theorem State.emitSample_report (s : State) (p w : Sample) :
    (s.emitSample p w).report = s.report := rfl

/-! ### audioStep -/

@[simp] theorem audioStep_cfg (s : State) :
    (audioStep s).cfg = s.cfg := rfl
@[simp] theorem audioStep_live (s : State) :
    (audioStep s).live = s.live := rfl
@[simp] theorem audioStep_cycAcc (s : State) :
    (audioStep s).cycAcc = s.cycAcc := rfl
@[simp] theorem audioStep_raw (s : State) :
    (audioStep s).raw = s.raw := rfl
@[simp] theorem audioStep_wfm (s : State) :
    (audioStep s).wfm = (wfmStep s.cfg s.raw s.wfm).1 := rfl
@[simp] theorem audioStep_pnc (s : State) :
    (audioStep s).pnc = (pncStep s.cfg s.raw s.pnc).1 := rfl
@[simp] theorem audioStep_samples (s : State) :
    (audioStep s).samples = s.samples ++ [⟨(pncStep s.cfg s.raw s.pnc).2, (wfmStep s.cfg s.raw s.wfm).2⟩] := rfl
@[simp] theorem audioStep_reads (s : State) :
    (audioStep s).reads = s.reads := rfl
@[simp] theorem audioStep_pending (s : State) :
    (audioStep s).pending = s.pending := rfl
@[simp] theorem audioStep_report (s : State) :
    (audioStep s).report = s.report := rfl

/-! ### withFetchWord -/

@[simp] theorem State.withFetchWord_cfg (s : State) (nbits w : Nat) :
    (s.withFetchWord nbits w).cfg = s.cfg := rfl
@[simp] theorem State.withFetchWord_live (s : State) (nbits w : Nat) :
    (s.withFetchWord nbits w).live = s.live := rfl
@[simp] theorem State.withFetchWord_cycAcc (s : State) (nbits w : Nat) :
    (s.withFetchWord nbits w).cycAcc = s.cycAcc := rfl
@[simp] theorem State.withFetchWord_raw (s : State) (nbits w : Nat) :
    (s.withFetchWord nbits w).raw = s.raw := rfl
@[simp] theorem State.withFetchWord_wfm (s : State) (nbits w : Nat) :
    (s.withFetchWord nbits w).wfm = s.wfm := rfl
@[simp] theorem State.withFetchWord_pnc (s : State) (nbits w : Nat) :
    (s.withFetchWord nbits w).pnc = s.pnc := rfl
@[simp] theorem State.withFetchWord_samples (s : State) (nbits w : Nat) :
    (s.withFetchWord nbits w).samples = s.samples := rfl
@[simp] theorem State.withFetchWord_reads (s : State) (nbits w : Nat) :
    (s.withFetchWord nbits w).reads = s.reads := rfl
@[simp] theorem State.withFetchWord_pending (s : State) (nbits w : Nat) :
    (s.withFetchWord nbits w).pending = tableWord nbits w :: s.pending := rfl
@[simp] theorem State.withFetchWord_report (s : State) (nbits w : Nat) :
    (s.withFetchWord nbits w).report = s.report := rfl

/-! ### resetWith -/

@[simp] theorem State.resetWith_cfg (c : Cfg) : (State.resetWith c).cfg = c := rfl
@[simp] theorem State.resetWith_live (c : Cfg) : (State.resetWith c).live = true := rfl
@[simp] theorem State.resetWith_cycAcc (c : Cfg) : (State.resetWith c).cycAcc = 0 := rfl
@[simp] theorem State.resetWith_raw (c : Cfg) : (State.resetWith c).raw = Memory.resetImage c := rfl
@[simp] theorem State.resetWith_wfm (c : Cfg) : (State.resetWith c).wfm = Wfm.reset := rfl
@[simp] theorem State.resetWith_pnc (c : Cfg) : (State.resetWith c).pnc = Pnc.reset := rfl
@[simp] theorem State.resetWith_samples (c : Cfg) : (State.resetWith c).samples = [] := rfl
@[simp] theorem State.resetWith_reads (c : Cfg) : (State.resetWith c).reads = [] := rfl
@[simp] theorem State.resetWith_pending (c : Cfg) : (State.resetWith c).pending = [] := rfl
@[simp] theorem State.resetWith_report (c : Cfg) : (State.resetWith c).report = none := rfl

theorem State.reset_eq : State.reset = State.resetWith Cfg.cfg0 := rfl

end Sys2Proof.Machine
end

