-- ==== Sys2Proof/Laws/Ops.lean ====
section
/-! SUPPORT. What each shared operation can do, said once: the provers cite these instead of unfolding. -/

namespace Sys2Proof.Machine

open Host (Outcome)

/-- While live, a command is performed. -/
theorem whenLive_live {s : State} (h : s.live = true) (f : State → State) : whenLive s f = .next (f s) := by
  simp [whenLive, h]

/-- Before the first RESET, a command is refused. -/
theorem whenLive_dead {s : State} (h : s.live = false) (f : State → State) :
    whenLive s f = .next (s.refuse .beforeReset) := by
  simp [whenLive, h]

/-- Everything a command that needs `live = 1` can answer. -/
theorem whenLive_cases {s t : State} {f : State → State} (h : whenLive s f = .next t) :
    (s.live = true ∧ t = f s) ∨ (s.live = false ∧ t = s.refuse .beforeReset) := by
  unfold whenLive at h
  split at h
  · next hl => exact .inl ⟨hl, (Outcome.next.inj h).symm⟩
  · next hl => exact .inr ⟨by simpa using hl, (Outcome.next.inj h).symm⟩

/-- The next command, where one is pending. -/
theorem State.nextCommand_cons {s : State} {w : Hcw} {rest : List Hcw} (h : s.pending = w :: rest) :
    s.nextCommand = some (w, { s with pending := rest, report := none }) := by
  unfold State.nextCommand
  rw [h]

/-- No command where none is pending. -/
theorem State.nextCommand_nil {s : State} (h : s.pending = []) : s.nextCommand = none := by
  unfold State.nextCommand
  rw [h]

/-- Everything a step can do: nothing is pending and nothing changes; the next word is illegal and refused; or the
next word decodes to a command, which is performed. -/
theorem step_cases {s t : State} (h : step s = .next t) :
    (s.pending = [] ∧ t = s) ∨
    (∃ w rest e, s.pending = w :: rest ∧ decode w = .error e ∧
      t = State.refuse { s with pending := rest, report := none } (.illegal e)) ∨
    (∃ w rest i, s.pending = w :: rest ∧ decode w = .ok i ∧
      exec i { s with pending := rest, report := none } = .next t) := by
  unfold step at h
  cases hp : s.pending with
  | nil =>
    rw [State.nextCommand_nil hp] at h
    exact .inl ⟨rfl, (Outcome.next.inj h).symm⟩
  | cons w rest =>
    rw [State.nextCommand_cons hp] at h
    refine .inr ?_
    cases hd : decode w with
    | error e =>
      simp only [hd] at h
      exact .inl ⟨w, rest, e, rfl, hd, (Outcome.next.inj h).symm⟩
    | ok i =>
      simp only [hd] at h
      exact .inr ⟨w, rest, i, rfl, hd, h⟩

/-- A store sets its cell and no other. -/
theorem State.store_storedByte (s : State) (a : Addr) (v : Byte) : StoredByte s (s.store a v) a v :=
  ⟨Memory.read_write_same _ _ _, fun _ h => Memory.read_write_other _ _ h⟩

/-- A view of `raw` after a store. -/
theorem State.store_byte (s : State) (a b : Addr) (v : Byte) :
    (s.store a v).raw.byte b = if b = a then v else s.raw.byte b := Memory.byte_write _ _ _ _

/-- `while acc >= period do acc <- acc - period; ticks <- ticks + 1`, at most `fuel` rounds: the loop the spec writes
for every divider. -/
def dividerLoop (period fuel acc ticks : Nat) : Divided :=
  match fuel with
  | 0 => ⟨acc, ticks⟩
  | n + 1 => if acc ≥ period then dividerLoop period n (acc - period) (ticks + 1) else ⟨acc, ticks⟩

/-- The divider is the spec's loop (log 7). -/
theorem dividerLoop_eq_divider {period fuel acc : Nat} (ticks : Nat) (hp : 1 ≤ period) (hf : acc ≤ fuel) :
    dividerLoop period fuel acc ticks = ⟨acc % period, ticks + acc / period⟩ := by
  induction fuel generalizing acc ticks with
  | zero =>
    obtain rfl : acc = 0 := by omega
    simp [dividerLoop]
  | succ n ih =>
    unfold dividerLoop
    split
    · next h =>
      rw [ih _ (by omega), Nat.mod_eq_sub_mod h, Nat.div_eq_sub_div (by omega) h]
      congr 1
      omega
    · next h =>
      rw [Nat.mod_eq_of_lt (by omega), Nat.div_eq_of_lt (by omega)]
      rfl

theorem divider_rest_lt (acc : Nat) {period : Nat} (h : 1 ≤ period) : (divider acc period).rest < period :=
  Nat.mod_lt _ (by omega)

/-- A divider loses nothing. -/
theorem divider_total (acc period : Nat) :
    (divider acc period).rest + period * (divider acc period).ticks = acc := Nat.mod_add_div _ _

/-- Splitting what a divider is given changes neither the total of ticks nor what is left. -/
theorem divider_add (acc add : Nat) {period : Nat} (h : 1 ≤ period) :
    (divider ((divider acc period).rest + add) period).rest = (divider (acc + add) period).rest ∧
      (divider acc period).ticks + (divider ((divider acc period).rest + add) period).ticks =
        (divider (acc + add) period).ticks := by
  refine ⟨Nat.mod_add_mod _ _ _, ?_⟩
  show acc / period + (acc % period + add) / period = (acc + add) / period
  conv_rhs => rw [← Nat.mod_add_div acc period, Nat.add_right_comm, Nat.add_mul_div_left _ _ (by omega)]
  omega

end Sys2Proof.Machine
end

