-- ==== Sys2Proof/Laws/PerInstr.lean ====
section
/-! SUPPORT. Statements made per command: the format of each command's word (spec/30_encoding.md R70 to R74). -/

namespace Sys2Proof.Laws

/-- The four fields of a bus-format word are where R71 and R72 put them. -/
theorem busWord_fields (k : BitVec 2) (z : BitVec 13) (addr : Addr) (data : Byte) :
    (k ++ (z ++ (addr ++ data))).extractLsb' 30 2 = k ∧ (k ++ (z ++ (addr ++ data))).extractLsb' 17 13 = z ∧
      (k ++ (z ++ (addr ++ data))).extractLsb' 8 9 = addr ∧
      (k ++ (z ++ (addr ++ data))).extractLsb' 0 8 = data := by
  refine ⟨?_, ?_, ?_, ?_⟩ <;> ext i hi <;> simp <;> grind

/-- The two fields of an ADVANCE or RESET word are where R73 and R74 put them. -/
theorem countWord_fields (k : BitVec 2) (n : BitVec 30) :
    (k ++ n).extractLsb' 30 2 = k ∧ (k ++ n).extractLsb' 0 30 = n := by
  refine ⟨?_, ?_⟩ <;> ext i hi <;> simp <;> grind

/-- The fields of a READ word (R71). -/
theorem readWord_format (addr : Addr) :
    (readWord addr).extractLsb' 30 2 = 0#2 ∧ (readWord addr).extractLsb' 17 13 = 0#13 ∧
      (readWord addr).extractLsb' 8 9 = addr ∧ (readWord addr).extractLsb' 0 8 = 0#8 :=
  busWord_fields _ _ _ _

/-- The fields of a WRITE word (R72). -/
theorem writeWord_format (addr : Addr) (data : Byte) :
    (writeWord addr data).extractLsb' 30 2 = 1#2 ∧ (writeWord addr data).extractLsb' 17 13 = 0#13 ∧
      (writeWord addr data).extractLsb' 8 9 = addr ∧ (writeWord addr data).extractLsb' 0 8 = data :=
  busWord_fields _ _ _ _

/-- The format R70 gives a command's word: its `kind` field, and the zero field 29:17 of the bus formats. -/
def KindField.Statement (i : Instr) : Prop :=
  match i with
  | .rd _ => (encode i).extractLsb' 30 2 = 0#2 ∧ (encode i).extractLsb' 17 13 = 0#13
  | .adv _ => (encode i).extractLsb' 30 2 = 2#2
  | .rst => (encode i).extractLsb' 30 2 = 3#2
  | .wrCwave _ _ => (encode i).extractLsb' 30 2 = 1#2 ∧ (encode i).extractLsb' 17 13 = 0#13
  | .wrMwave _ _ => (encode i).extractLsb' 30 2 = 1#2 ∧ (encode i).extractLsb' 17 13 = 0#13
  | .wrCvol _ => (encode i).extractLsb' 30 2 = 1#2 ∧ (encode i).extractLsb' 17 13 = 0#13
  | .wrCflo _ => (encode i).extractLsb' 30 2 = 1#2 ∧ (encode i).extractLsb' 17 13 = 0#13
  | .wrCfhi _ => (encode i).extractLsb' 30 2 = 1#2 ∧ (encode i).extractLsb' 17 13 = 0#13
  | .wrMvol _ => (encode i).extractLsb' 30 2 = 1#2 ∧ (encode i).extractLsb' 17 13 = 0#13
  | .wrMctl _ => (encode i).extractLsb' 30 2 = 1#2 ∧ (encode i).extractLsb' 17 13 = 0#13
  | .wrMflo _ => (encode i).extractLsb' 30 2 = 1#2 ∧ (encode i).extractLsb' 17 13 = 0#13
  | .wrMfhi _ => (encode i).extractLsb' 30 2 = 1#2 ∧ (encode i).extractLsb' 17 13 = 0#13
  | .wrMaster _ => (encode i).extractLsb' 30 2 = 1#2 ∧ (encode i).extractLsb' 17 13 = 0#13
  | .wrP0ctl _ => (encode i).extractLsb' 30 2 = 1#2 ∧ (encode i).extractLsb' 17 13 = 0#13
  | .wrP0lo _ => (encode i).extractLsb' 30 2 = 1#2 ∧ (encode i).extractLsb' 17 13 = 0#13
  | .wrP0hi _ => (encode i).extractLsb' 30 2 = 1#2 ∧ (encode i).extractLsb' 17 13 = 0#13
  | .wrP1ctl _ => (encode i).extractLsb' 30 2 = 1#2 ∧ (encode i).extractLsb' 17 13 = 0#13
  | .wrP1lo _ => (encode i).extractLsb' 30 2 = 1#2 ∧ (encode i).extractLsb' 17 13 = 0#13
  | .wrP1hi _ => (encode i).extractLsb' 30 2 = 1#2 ∧ (encode i).extractLsb' 17 13 = 0#13
  | .wrTlo _ => (encode i).extractLsb' 30 2 = 1#2 ∧ (encode i).extractLsb' 17 13 = 0#13
  | .wrThi _ => (encode i).extractLsb' 30 2 = 1#2 ∧ (encode i).extractLsb' 17 13 = 0#13
  | .wrNctl _ => (encode i).extractLsb' 30 2 = 1#2 ∧ (encode i).extractLsb' 17 13 = 0#13
  | .wrNlo _ => (encode i).extractLsb' 30 2 = 1#2 ∧ (encode i).extractLsb' 17 13 = 0#13
  | .wrNhi _ => (encode i).extractLsb' 30 2 = 1#2 ∧ (encode i).extractLsb' 17 13 = 0#13
  | .wrRsvd _ _ => (encode i).extractLsb' 30 2 = 1#2 ∧ (encode i).extractLsb' 17 13 = 0#13

theorem KindField.wrCwave (i : BitVec 6) (data : Byte) : KindField.Statement (.wrCwave i data) := ⟨(writeWord_format _ _).1, (writeWord_format _ _).2.1⟩
theorem KindField.wrMwave (i : BitVec 6) (data : Byte) : KindField.Statement (.wrMwave i data) := ⟨(writeWord_format _ _).1, (writeWord_format _ _).2.1⟩
theorem KindField.wrCvol (data : Byte) : KindField.Statement (.wrCvol data) := ⟨(writeWord_format _ _).1, (writeWord_format _ _).2.1⟩
theorem KindField.wrCflo (data : Byte) : KindField.Statement (.wrCflo data) := ⟨(writeWord_format _ _).1, (writeWord_format _ _).2.1⟩
theorem KindField.wrCfhi (data : Byte) : KindField.Statement (.wrCfhi data) := ⟨(writeWord_format _ _).1, (writeWord_format _ _).2.1⟩
theorem KindField.wrMvol (data : Byte) : KindField.Statement (.wrMvol data) := ⟨(writeWord_format _ _).1, (writeWord_format _ _).2.1⟩
theorem KindField.wrMctl (data : Byte) : KindField.Statement (.wrMctl data) := ⟨(writeWord_format _ _).1, (writeWord_format _ _).2.1⟩
theorem KindField.wrMflo (data : Byte) : KindField.Statement (.wrMflo data) := ⟨(writeWord_format _ _).1, (writeWord_format _ _).2.1⟩
theorem KindField.wrMfhi (data : Byte) : KindField.Statement (.wrMfhi data) := ⟨(writeWord_format _ _).1, (writeWord_format _ _).2.1⟩
theorem KindField.wrMaster (data : Byte) : KindField.Statement (.wrMaster data) := ⟨(writeWord_format _ _).1, (writeWord_format _ _).2.1⟩
theorem KindField.wrP0ctl (data : Byte) : KindField.Statement (.wrP0ctl data) := ⟨(writeWord_format _ _).1, (writeWord_format _ _).2.1⟩
theorem KindField.wrP0lo (data : Byte) : KindField.Statement (.wrP0lo data) := ⟨(writeWord_format _ _).1, (writeWord_format _ _).2.1⟩
theorem KindField.wrP0hi (data : Byte) : KindField.Statement (.wrP0hi data) := ⟨(writeWord_format _ _).1, (writeWord_format _ _).2.1⟩
theorem KindField.wrP1ctl (data : Byte) : KindField.Statement (.wrP1ctl data) := ⟨(writeWord_format _ _).1, (writeWord_format _ _).2.1⟩
theorem KindField.wrP1lo (data : Byte) : KindField.Statement (.wrP1lo data) := ⟨(writeWord_format _ _).1, (writeWord_format _ _).2.1⟩
theorem KindField.wrP1hi (data : Byte) : KindField.Statement (.wrP1hi data) := ⟨(writeWord_format _ _).1, (writeWord_format _ _).2.1⟩
theorem KindField.wrTlo (data : Byte) : KindField.Statement (.wrTlo data) := ⟨(writeWord_format _ _).1, (writeWord_format _ _).2.1⟩
theorem KindField.wrThi (data : Byte) : KindField.Statement (.wrThi data) := ⟨(writeWord_format _ _).1, (writeWord_format _ _).2.1⟩
theorem KindField.wrNctl (data : Byte) : KindField.Statement (.wrNctl data) := ⟨(writeWord_format _ _).1, (writeWord_format _ _).2.1⟩
theorem KindField.wrNlo (data : Byte) : KindField.Statement (.wrNlo data) := ⟨(writeWord_format _ _).1, (writeWord_format _ _).2.1⟩
theorem KindField.wrNhi (data : Byte) : KindField.Statement (.wrNhi data) := ⟨(writeWord_format _ _).1, (writeWord_format _ _).2.1⟩
theorem KindField.wrRsvd (addr : Addr) (data : Byte) : KindField.Statement (.wrRsvd addr data) := ⟨(writeWord_format _ _).1, (writeWord_format _ _).2.1⟩
theorem KindField.rd (addr : Addr) : KindField.Statement (.rd addr) := ⟨(readWord_format addr).1, (readWord_format addr).2.1⟩
theorem KindField.adv (count : BitVec 30) : KindField.Statement (.adv count) := (countWord_fields _ _).1
theorem KindField.rst : KindField.Statement .rst := (countWord_fields _ _).1

end Sys2Proof.Laws
end

