-- ==== Sys2Proof/Laws/Units.lean ====
section
/-! SUPPORT. The unit steps: what one envelope clock can do, what each part of a step leaves alone, and what any number
of audio steps leaves alone. -/

namespace Sys2Proof.Machine

/-- A property an operation keeps holds after any number of rounds. -/
theorem iterate_keeps {α : Type} (P : α → Prop) (f : α → α) (hf : ∀ x, P x → P (f x)) (n : Nat) (x : α) (h : P x) :
    P (Nat.iterate f n x) := by
  induction n generalizing x with
  | zero => exact h
  | succ n ih => exact ih _ (hf _ h)

/-- A field that an operation leaves alone is left alone by any number of rounds. -/
theorem iterate_same {α β : Type} (g : α → β) (f : α → α) (hf : ∀ x, g (f x) = g x) (n : Nat) (x : α) :
    g (Nat.iterate f n x) = g x := by
  induction n generalizing x with
  | zero => rfl
  | succ n ih => exact (ih _).trans (hf _)

/-- A field that follows an operation of its own follows it through any number of rounds. -/
theorem iterate_follows {α β : Type} (g : α → β) (f : α → α) (k : β → β) (hf : ∀ x, g (f x) = k (g x))
    (n : Nat) (x : α) : g (Nat.iterate f n x) = Nat.iterate k n (g x) := by
  induction n generalizing x with
  | zero => rfl
  | succ n ih =>
    show g (Nat.iterate f n (f x)) = Nat.iterate k n (k (g x))
    rw [ih, hf]

/-! ### WFM -/

/-- Everything one WFM envelope clock can do (R172). -/
theorem wfmEgTick_cases (reg : Byte) (e : WfmEnv) :
    (fixedMode reg = true ∧ wfmEgTick reg e = e) ∨
    (fixedMode reg = false ∧ e.cnt.toNat < (volField reg).toNat ∧ wfmEgTick reg e = ⟨e.lvl, e.cnt + 1⟩) ∨
    (fixedMode reg = false ∧ (volField reg).toNat ≤ e.cnt.toNat ∧ (wfmEgTick reg e).cnt = 0 ∧
      (wfmEgTick reg e).lvl =
        if rampUp reg then (if e.lvl.toNat < 31 then e.lvl + 1 else e.lvl)
        else (if e.lvl.toNat > 0 then e.lvl - 1 else e.lvl)) := by
  unfold wfmEgTick
  cases hm : fixedMode reg
  · by_cases hc : e.cnt.toNat ≥ (volField reg).toNat
    · right; right
      simp [hc, envMax]
    · right; left
      simp [hc]
      omega
  · left; simp

@[simp] theorem wfmEgClock_cEnv (m : Memory) (u : Wfm) :
    (wfmEgClock m u).cEnv = wfmEgTick (m.byte aCVOL) u.cEnv := rfl
@[simp] theorem wfmEgClock_mEnv (m : Memory) (u : Wfm) :
    (wfmEgClock m u).mEnv = wfmEgTick (m.byte aMVOL) u.mEnv := rfl
@[simp] theorem wfmEgClock_cPhase (m : Memory) (u : Wfm) : (wfmEgClock m u).cPhase = u.cPhase := rfl
@[simp] theorem wfmEgClock_mPhase (m : Memory) (u : Wfm) : (wfmEgClock m u).mPhase = u.mPhase := rfl
@[simp] theorem wfmEgClock_bias (m : Memory) (u : Wfm) : (wfmEgClock m u).bias = u.bias := rfl
@[simp] theorem wfmEgClock_egAcc (m : Memory) (u : Wfm) : (wfmEgClock m u).egAcc = u.egAcc := rfl

/-- Everything the envelope clock of a step does (R171). -/
theorem wfmEgClk_spec (c : Cfg) (m : Memory) (u : Wfm) :
    let d := divider (u.egAcc + (c.cps <<< c.egFracBits)) c.egPeriodFx
    (wfmEgClk c m u).egAcc = d.rest ∧
    (wfmEgClk c m u).cEnv = Nat.iterate (wfmEgTick (m.byte aCVOL)) d.ticks u.cEnv ∧
    (wfmEgClk c m u).mEnv = Nat.iterate (wfmEgTick (m.byte aMVOL)) d.ticks u.mEnv ∧
    (wfmEgClk c m u).cPhase = u.cPhase ∧ (wfmEgClk c m u).mPhase = u.mPhase ∧ (wfmEgClk c m u).bias = u.bias := by
  intro d
  refine ⟨iterate_same Wfm.egAcc (wfmEgClock m) (fun _ => rfl) _ _, iterate_follows Wfm.cEnv (wfmEgClock m) _ (fun _ => rfl) _ _,
    iterate_follows Wfm.mEnv (wfmEgClock m) _ (fun _ => rfl) _ _, iterate_same Wfm.cPhase (wfmEgClock m) (fun _ => rfl) _ _,
    iterate_same Wfm.mPhase (wfmEgClock m) (fun _ => rfl) _ _, iterate_same Wfm.bias (wfmEgClock m) (fun _ => rfl) _ _⟩

/-- A disabled modulator does not move (R173). -/
theorem wfmModAdv_off {c : Cfg} {m : Memory} {u : Wfm} (h : men m = false) : wfmModAdv c m u = u := by
  simp [wfmModAdv, h]

/-- Everything the modulator's advance does when it is enabled (R173). -/
theorem wfmModAdv_on {c : Cfg} {m : Memory} {u : Wfm} (h : men m = true) :
    wfmModAdv c m u =
      { u with
        bias := biasEntries m (u.mPhase.toNat >>> 16)
          (((u.mPhase.toNat + mMul c m) >>> 16) - (u.mPhase.toNat >>> 16)) u.bias,
        mPhase := BitVec.ofNat 22 (u.mPhase.toNat + mMul c m) } := by
  simp [wfmModAdv, h]

/-- What the modulator's advance leaves alone. -/
theorem wfmModAdv_frame (c : Cfg) (m : Memory) (u : Wfm) :
    (wfmModAdv c m u).cPhase = u.cPhase ∧ (wfmModAdv c m u).cEnv = u.cEnv ∧
      (wfmModAdv c m u).mEnv = u.mEnv ∧ (wfmModAdv c m u).egAcc = u.egAcc := by
  cases h : men m
  · rw [wfmModAdv_off h]; exact ⟨rfl, rfl, rfl, rfl⟩
  · rw [wfmModAdv_on h]; exact ⟨rfl, rfl, rfl, rfl⟩

/-- A disabled carrier does not move (R179). -/
theorem wfmCarAdv_off {c : Cfg} {m : Memory} {mod : Int} {u : Wfm} (h : cen m = false) :
    wfmCarAdv c m mod u = u := by
  simp [wfmCarAdv, h]

/-- Everything the carrier's advance does when it is enabled (R179). -/
theorem wfmCarAdv_on {c : Cfg} {m : Memory} {mod : Int} {u : Wfm} (h : cen m = true) :
    wfmCarAdv c m mod u =
      { u with cPhase := BitVec.ofNat 22 (u.cPhase.toNat + effFreq (cfreq m) mod * c.cps) } := by
  simp [wfmCarAdv, h]

/-- What the carrier's advance leaves alone. -/
theorem wfmCarAdv_frame (c : Cfg) (m : Memory) (mod : Int) (u : Wfm) :
    (wfmCarAdv c m mod u).mPhase = u.mPhase ∧ (wfmCarAdv c m mod u).bias = u.bias ∧
      (wfmCarAdv c m mod u).cEnv = u.cEnv ∧ (wfmCarAdv c m mod u).mEnv = u.mEnv ∧
      (wfmCarAdv c m mod u).egAcc = u.egAcc := by
  cases h : cen m
  · rw [wfmCarAdv_off h]; exact ⟨rfl, rfl, rfl, rfl, rfl⟩
  · rw [wfmCarAdv_on h]; exact ⟨rfl, rfl, rfl, rfl, rfl⟩

/-- The envelopes and the envelope clock of a WFM step are those of its envelope clock part (R170). -/
theorem wfmStep_envelopes (c : Cfg) (m : Memory) (u : Wfm) :
    (wfmStep c m u).1.cEnv = (wfmEgClk c m u).cEnv ∧ (wfmStep c m u).1.mEnv = (wfmEgClk c m u).mEnv ∧
      (wfmStep c m u).1.egAcc = (wfmEgClk c m u).egAcc := by
  have h1 := wfmModAdv_frame c m (wfmEgClk c m u)
  have h2 := wfmCarAdv_frame c m
    (modValue (wfmModAdv c m (wfmEgClk c m u)).bias (wfmModAdv c m (wfmEgClk c m u)).mEnv.lvl (cfreq m))
    (wfmModAdv c m (wfmEgClk c m u))
  exact ⟨h2.2.2.1.trans h1.2.1, h2.2.2.2.1.trans h1.2.2.1, h2.2.2.2.2.trans h1.2.2.2⟩

/-- The sample of a WFM step is the output at the unit's new state (R170). -/
theorem wfmStep_sample (c : Cfg) (m : Memory) (u : Wfm) : (wfmStep c m u).2 = wfmOut c m (wfmStep c m u).1 := rfl

/-! ### PNC -/

/-- Everything one PNC envelope clock can do (R132). -/
theorem pncEnvTick_cases (ctl : Byte) (e : PncEnv) :
    (decayBit ctl = false ∧ pncEnvTick ctl e = e) ∨
    (decayBit ctl = true ∧ e.cnt.toNat < (valField ctl).toNat ∧ pncEnvTick ctl e = ⟨e.lvl, e.cnt + 1⟩) ∨
    (decayBit ctl = true ∧ (valField ctl).toNat ≤ e.cnt.toNat ∧
      pncEnvTick ctl e = ⟨if e.lvl.toNat > 0 then e.lvl - 1 else e.lvl, 0⟩) := by
  unfold pncEnvTick
  cases hm : decayBit ctl
  · left; simp
  · by_cases hc : e.cnt.toNat ≥ (valField ctl).toNat
    · right; right
      simp [hc]
    · right; left
      simp [hc]
      omega

/-- Everything the PNC's envelope clocks do in a step (R131). -/
theorem pncEnvClk_spec (c : Cfg) (m : Memory) (k : Nat) (u : Pnc) :
    let d := divider (u.envAcc + k) c.pncEnvPeriod
    (pncEnvClk c m k u).envAcc = d.rest ∧
    (pncEnvClk c m k u).p0 =
      { u.p0 with env := Nat.iterate (pncEnvTick (m.byte aP0CTL)) d.ticks u.p0.env } ∧
    (pncEnvClk c m k u).p1 =
      { u.p1 with env := Nat.iterate (pncEnvTick (m.byte aP1CTL)) d.ticks u.p1.env } ∧
    (pncEnvClk c m k u).noise =
      { u.noise with env := Nat.iterate (pncEnvTick (m.byte aNCTL)) d.ticks u.noise.env } ∧
    (pncEnvClk c m k u).tri = u.tri ∧ (pncEnvClk c m k u).divAcc = u.divAcc := by
  intro d
  have pulse (tick : PncEnv → PncEnv) (n : Nat) (p : Pulse) :
      Nat.iterate (fun p : Pulse => { p with env := tick p.env }) n p =
        { p with env := Nat.iterate tick n p.env } := by
    induction n generalizing p with
    | zero => rfl
    | succ n ih => exact ih _
  have noise (tick : PncEnv → PncEnv) (n : Nat) (p : Noise) :
      Nat.iterate (fun p : Noise => { p with env := tick p.env }) n p =
        { p with env := Nat.iterate tick n p.env } := by
    induction n generalizing p with
    | zero => rfl
    | succ n ih => exact ih _
  exact ⟨iterate_same Pnc.envAcc (pncEnvClock m) (fun _ => rfl) _ _,
    (iterate_follows Pnc.p0 (pncEnvClock m) _ (fun _ => rfl) _ _).trans (pulse _ _ _),
    (iterate_follows Pnc.p1 (pncEnvClock m) _ (fun _ => rfl) _ _).trans (pulse _ _ _),
    (iterate_follows Pnc.noise (pncEnvClock m) _ (fun _ => rfl) _ _).trans (noise _ _ _),
    iterate_same Pnc.tri (pncEnvClock m) (fun _ => rfl) _ _, iterate_same Pnc.divAcc (pncEnvClock m) (fun _ => rfl) _ _⟩

/-- A disabled pulse oscillator outputs 0 and does not move (R134). -/
theorem pncPulse_off {c : Cfg} {m : Memory} {ctl lo hi : Addr} {k : Nat} {p : Pulse} (h : enabled m hi = false) :
    pncPulse c m ctl lo hi k p = (p, 0) := by
  simp [pncPulse, h]

/-- What an enabled pulse oscillator does (R134). -/
theorem pncPulse_on {c : Cfg} {m : Memory} {ctl lo hi : Addr} {k : Nat} {p : Pulse} (h : enabled m hi = true) :
    (pncPulse c m ctl lo hi k p).1 =
      { p with acc := (pncTimer p.acc (period m lo hi) k).1,
               seq := BitVec.ofNat 3 (p.seq.toNat + (pncTimer p.acc (period m lo hi) k).2) } := by
  simp [pncPulse, h]

/-- A pulse oscillator's output is at most its level. -/
theorem pncPulse_out_le (c : Cfg) (m : Memory) (ctl lo hi : Addr) (k : Nat) (p : Pulse) :
    (pncPulse c m ctl lo hi k p).2 ≤ p.env.lvl.toNat := by
  unfold pncPulse
  split
  · dsimp only
    split <;> omega
  · exact Nat.zero_le _

/-- A disabled triangle outputs 0 and does not move (R135). -/
theorem pncTri_off {m : Memory} {k : Nat} {t : Triangle} (h : enabled m aTHI = false) : pncTri m k t = (t, 0) := by
  simp [pncTri, h]

/-- A disabled noise channel outputs 0 and does not move (R136). -/
theorem pncNoise_off {m : Memory} {k : Nat} {n : Noise} (h : enabled m aNHI = false) : pncNoise m k n = (n, 0) := by
  simp [pncNoise, h]

/-- A PNC step, part by part (R138). -/
theorem pncStep_parts (c : Cfg) (m : Memory) (u : Pnc) :
    let k := (pncClk c u).2
    let v := pncEnvClk c m k (pncClk c u).1
    (pncStep c m u).1 =
      { v with
        p0 := (pncPulse c m aP0CTL aP0LO aP0HI k v.p0).1, p1 := (pncPulse c m aP1CTL aP1LO aP1HI k v.p1).1,
        tri := (pncTri m k v.tri).1, noise := (pncNoise m k v.noise).1 } ∧
    (pncStep c m u).2 =
      BitVec.ofNat 16 (pncMix c (pncPulse c m aP0CTL aP0LO aP0HI k v.p0).2 (pncPulse c m aP1CTL aP1LO aP1HI k v.p1).2
        (pncTri m k v.tri).2 (pncNoise m k v.noise).2) := ⟨rfl, rfl⟩

/-! ### Audio steps -/

/-- What any number of audio steps leaves alone: a step never writes `raw` (10_state.md R21). -/
theorem audioSteps_frame (n : Nat) (s : State) :
    (Nat.iterate audioStep n s).cfg = s.cfg ∧ (Nat.iterate audioStep n s).live = s.live ∧
    (Nat.iterate audioStep n s).cycAcc = s.cycAcc ∧ (Nat.iterate audioStep n s).raw = s.raw ∧
    (Nat.iterate audioStep n s).reads = s.reads ∧ (Nat.iterate audioStep n s).pending = s.pending ∧
    (Nat.iterate audioStep n s).report = s.report :=
  ⟨iterate_same State.cfg audioStep (fun _ => rfl) _ _, iterate_same State.live audioStep (fun _ => rfl) _ _,
    iterate_same State.cycAcc audioStep (fun _ => rfl) _ _, iterate_same State.raw audioStep (fun _ => rfl) _ _,
    iterate_same State.reads audioStep (fun _ => rfl) _ _, iterate_same State.pending audioStep (fun _ => rfl) _ _,
    iterate_same State.report audioStep (fun _ => rfl) _ _⟩

/-- Any number of audio steps as steps of the two units, each on its own state. -/
theorem audioSteps_units (n : Nat) (s : State) :
    (Nat.iterate audioStep n s).wfm = Nat.iterate (fun u => (wfmStep s.cfg s.raw u).1) n s.wfm ∧
      (Nat.iterate audioStep n s).pnc = Nat.iterate (fun u => (pncStep s.cfg s.raw u).1) n s.pnc := by
  induction n generalizing s with
  | zero => exact ⟨rfl, rfl⟩
  | succ n ih => exact ih (audioStep s)

/-- ADVANCE, while live (R92). -/
theorem execAdv_live {s : State} (h : s.live = true) (count : BitVec 30) :
    execAdv count s =
      .next (Nat.iterate audioStep (s.stepsIn count)
        { s with cycAcc := (s.cycAcc + count.toNat) % s.cfg.cps }) := whenLive_live h _

end Sys2Proof.Machine
end

