-- ==== Sys2Proof/Tests/Slice0.lean ====
section
/-! SUPPORT. The model's own tests: well-formedness, decoding, one step per test, and for each statement with
hypotheses a witness that meets them. Expected values are those of spec/95_test_vectors.md and of the rules' examples. -/

namespace Sys2Proof.Tests

open Sys2Proof Sys2Proof.Machine

/- The tests one after the other: as many at once as there are tests take a thread each. -/
set_option Elab.async false

/-! ### Well-formedness -/

theorem test_wrRsvd_implemented_is_ill_formed :
    (Instr.wrRsvd 0x080 0).wellFormed = false ∧ (Instr.wrRsvd 0x087 0).wellFormed = false ∧
    (Instr.wrRsvd 0x000 0).wellFormed = false ∧ (Instr.wrRsvd 0x10E 0).wellFormed = false := by decide

theorem test_wrRsvd_reserved_is_well_formed :
    (Instr.wrRsvd 0x088 0).wellFormed = true ∧ (Instr.wrRsvd 0x103 0).wellFormed = true ∧
    (Instr.wrRsvd 0x108 0).wellFormed = true ∧ (Instr.wrRsvd 0x1FF 0).wellFormed = true := by decide

/-! ### Decoding: words written out from 30_encoding.md R71 to R76 -/

theorem test_decode_wrCwave : decode 0b01_0000000000000_000000011_00111111#32 = .ok (.wrCwave 3 0x3F) := by decide
theorem test_decode_wrMwave : decode 0b01_0000000000000_001000011_00000111#32 = .ok (.wrMwave 3 0x07) := by decide
theorem test_decode_wrCvol : decode 0b01_0000000000000_010000000_10011111#32 = .ok (.wrCvol 0x9F) := by decide
theorem test_decode_wrCflo : decode 0b01_0000000000000_010000001_00110100#32 = .ok (.wrCflo 0x34) := by decide
theorem test_decode_wrCfhi : decode 0b01_0000000000000_010000010_10000001#32 = .ok (.wrCfhi 0x81) := by decide
theorem test_decode_wrMvol : decode 0b01_0000000000000_010000011_10100000#32 = .ok (.wrMvol 0xA0) := by decide
theorem test_decode_wrMctl : decode 0b01_0000000000000_010000100_10000000#32 = .ok (.wrMctl 0x80) := by decide
theorem test_decode_wrMflo : decode 0b01_0000000000000_010000101_11111111#32 = .ok (.wrMflo 0xFF) := by decide
theorem test_decode_wrMfhi : decode 0b01_0000000000000_010000110_00001000#32 = .ok (.wrMfhi 0x08) := by decide
theorem test_decode_wrMaster : decode 0b01_0000000000000_010000111_11111110#32 = .ok (.wrMaster 0xFE) := by decide
theorem test_decode_wrP0ctl : decode 0b01_0000000000000_100000000_10001010#32 = .ok (.wrP0ctl 0x8A) := by decide
theorem test_decode_wrP0lo : decode 0b01_0000000000000_100000001_00000111#32 = .ok (.wrP0lo 0x07) := by decide
theorem test_decode_wrP0hi : decode 0b01_0000000000000_100000010_10000000#32 = .ok (.wrP0hi 0x80) := by decide
theorem test_decode_wrP1ctl : decode 0b01_0000000000000_100000100_00010011#32 = .ok (.wrP1ctl 0x13) := by decide
theorem test_decode_wrP1lo : decode 0b01_0000000000000_100000101_11111111#32 = .ok (.wrP1lo 0xFF) := by decide
theorem test_decode_wrP1hi : decode 0b01_0000000000000_100000110_10000111#32 = .ok (.wrP1hi 0x87) := by decide
theorem test_decode_wrTlo : decode 0b01_0000000000000_100001001_00000011#32 = .ok (.wrTlo 0x03) := by decide
theorem test_decode_wrThi : decode 0b01_0000000000000_100001010_10000000#32 = .ok (.wrThi 0x80) := by decide
theorem test_decode_wrNctl : decode 0b01_0000000000000_100001100_00010000#32 = .ok (.wrNctl 0x10) := by decide
theorem test_decode_wrNlo : decode 0b01_0000000000000_100001101_00000111#32 = .ok (.wrNlo 0x07) := by decide
theorem test_decode_wrNhi : decode 0b01_0000000000000_100001110_10000000#32 = .ok (.wrNhi 0x80) := by decide
theorem test_decode_wrRsvd : decode 0b01_0000000000000_011110000_01010101#32 = .ok (.wrRsvd 0x0F0 0x55) := by decide
theorem test_decode_rd : decode 0b00_0000000000000_111111111_00000000#32 = .ok (.rd 0x1FF) := by decide
theorem test_decode_adv : decode 0b10_000000000000000000001100000000#32 = .ok (.adv 768) := by decide
theorem test_decode_rst : decode 0b11_000000000000000000000000000000#32 = .ok .rst := by decide

/-- The must-be-zero fields, at their lowest and highest bits (R75). -/
theorem test_decode_refuses :
    decode 0x00020000#32 = .error .zero13 ∧ decode 0x20000000#32 = .error .zero13 ∧
    decode 0x40020000#32 = .error .zero13 ∧ decode 0x60000000#32 = .error .zero13 ∧
    decode 0x00008701#32 = .error .zero8 ∧ decode 0x00000080#32 = .error .zero8 ∧
    decode 0xC0000001#32 = .error .zero30 ∧ decode 0xE0000000#32 = .error .zero30 := by decide

theorem test_decodeTableWord : decodeTableWord 32 0x4000809F = some (.wrCvol 0x9F) ∧
    decodeTableWord 32 0xFFFFFFFF = none := by decide

/-! ### One step each -/

/-- The state after one step that performs the word `w`. -/
def perform (s : State) (w : Hcw) : Option State :=
  match step { s with pending := [w] } with
  | .next t => some t
  | _ => none

theorem perform_next {s t : State} {w : Hcw} (h : perform s w = some t) :
    step { s with pending := [w] } = .next t := by
  unfold perform at h
  split at h
  · next heq => cases h; exact heq
  · cases h

/-- A reset block with these register bytes. -/
def withRaw (m : Memory) : State := { State.reset with raw := m }

/-- A reset block with these register bytes and this WFM state. -/
def withWfm (m : Memory) (u : Wfm) : State := { State.reset with raw := m, wfm := u }

/-- A reset block with these register bytes and this PNC state. -/
def withPnc (m : Memory) (u : Pnc) : State := { State.reset with raw := m, pnc := u }

theorem test_wrCwave_entry : (perform State.reset 0x4000033F#32).map (fun t => cwave t.raw 3) = some 63 := by decide

/-- Bits 7:6 are kept and ignored (R150). -/
theorem test_wrCwave_reserved_bits :
    (perform State.reset 0x40003FFF#32).map (fun t => (t.raw.read 63, cwave t.raw 63)) = some (0xFF, 63) := by decide

theorem test_wrMwave_entry :
    (perform State.reset 0x4000460B#32).map (fun t => (t.raw.read 0x46, msel t.raw 6, t.wfm.bias)) =
      some (0x0B, 3, 0) := by decide

theorem test_wrCvol_fixed : (perform State.reset 0x4000809F#32).map (fun t => t.wfm.cEnv) = some ⟨31, 0⟩ := by decide

/-- A ramp write keeps the level and zeroes the counter (R152). -/
theorem test_wrCvol_ramp :
    (perform (withWfm [] { Wfm.reset with cEnv := ⟨5, 3⟩ }) 0x40008041#32).map (fun t => t.wfm.cEnv) =
      some ⟨5, 0⟩ := by decide

/-- Program P7: the new low byte under the old high bits. -/
theorem test_wrCflo_mixture :
    (perform (withRaw [(0x082, 0x88)]) 0x40008180#32).map (fun t => cfreq t.raw) = some 0x880 := by decide

theorem test_wrCfhi_enable :
    (perform (withWfm [] { Wfm.reset with cPhase := 4096 }) 0x40008281#32).map
      (fun t => (cfreq t.raw, cen t.raw, t.wfm.cPhase)) = some (0x100, true, 4096) := by decide

/-- Program P5: disabling the carrier zeroes its phase. -/
theorem test_wrCfhi_disable :
    (perform (withWfm [(0x081, 0xFF), (0x082, 0x8F)] { Wfm.reset with cPhase := 196560 }) 0x4000820F#32).map
      (fun t => (cfreq t.raw, cen t.raw, t.wfm.cPhase)) = some (0xFFF, false, 0) := by decide

theorem test_wrMvol_fixed :
    (perform State.reset 0x400083A0#32).map (fun t => (t.wfm.mEnv, t.wfm.cEnv)) = some (⟨32, 0⟩, ⟨0, 0⟩) := by decide

theorem test_wrMvol_ramp :
    (perform (withWfm [] { Wfm.reset with mEnv := ⟨3, 2⟩ }) 0x40008300#32).map (fun t => t.wfm.mEnv) =
      some ⟨3, 0⟩ := by decide

/-- Every write resets the bias; enabling leaves the phase running (R156). -/
theorem test_wrMctl_enable :
    (perform (withWfm [(0x084, 0x80)] { Wfm.reset with bias := 17, mPhase := 9 }) 0x40008480#32).map
      (fun t => (t.wfm.bias, t.wfm.mPhase)) = some (0, 9) := by decide

theorem test_wrMctl_disable :
    (perform (withWfm [(0x084, 0x80)] { Wfm.reset with bias := -64, mPhase := 9 }) 0x40008400#32).map
      (fun t => (t.wfm.bias, t.wfm.mPhase, men t.raw)) = some (0, 0, false) := by decide

theorem test_wrMflo : (perform (withRaw [(0x086, 0x0F)]) 0x400085FF#32).map (fun t => mfreq t.raw) =
    some 0xFFF := by decide

theorem test_wrMfhi : (perform State.reset 0x40008608#32).map (fun t => mfreq t.raw) = some 0x800 := by decide

theorem test_wrMaster :
    (perform State.reset 0x400087FE#32).map (fun t => (t.raw.read 0x87, master t.raw)) = some (0xFE, 2) := by decide

theorem test_wrP0ctl_constant :
    (perform State.reset 0x4001008A#32).map (fun t => (t.pnc.p0.env, dutySel (t.raw.byte aP0CTL))) =
      some (⟨10, 0⟩, 2) := by decide

/-- A period write does not touch the timer (R116). -/
theorem test_wrP0lo :
    (perform (withPnc [] { Pnc.reset with p0 := ⟨9, 3, ⟨1, 1⟩⟩ }) 0x40010107#32).map
      (fun t => (period t.raw aP0LO aP0HI, t.pnc.p0)) = some (7, ⟨9, 3, ⟨1, 1⟩⟩) := by decide

theorem test_wrP0hi_disable :
    (perform (withPnc [(0x102, 0x87)] { Pnc.reset with p0 := ⟨9, 3, ⟨4, 1⟩⟩ }) 0x40010207#32).map
      (fun t => (enabled t.raw aP0HI, t.pnc.p0)) = some (false, ⟨0, 0, ⟨4, 1⟩⟩) := by decide

theorem test_wrP1ctl_decay :
    (perform State.reset 0x40010413#32).map (fun t => (t.pnc.p1.env, t.pnc.p0.env)) =
      some (⟨15, 0⟩, ⟨0, 0⟩) := by decide

theorem test_wrP1lo : (perform (withRaw [(0x106, 0x07)]) 0x400105FF#32).map (fun t => period t.raw aP1LO aP1HI) =
    some 2047 := by decide

theorem test_wrP1hi_enable :
    (perform (withPnc [(0x105, 0xFF)] { Pnc.reset with p1 := ⟨9, 3, ⟨4, 1⟩⟩ }) 0x40010687#32).map
      (fun t => (period t.raw aP1LO aP1HI, enabled t.raw aP1HI, t.pnc.p1)) =
      some (2047, true, ⟨9, 3, ⟨4, 1⟩⟩) := by decide

theorem test_wrTlo : (perform State.reset 0x40010903#32).map (fun t => period t.raw aTLO aTHI) = some 3 := by decide

theorem test_wrThi_disable :
    (perform (withPnc [(0x10A, 0x80)] { Pnc.reset with tri := ⟨5, 17⟩ }) 0x40010A01#32).map
      (fun t => (period t.raw aTLO aTHI, t.pnc.tri)) = some (0x100, ⟨0, 0⟩) := by decide

theorem test_wrNctl_decay : (perform State.reset 0x40010C10#32).map (fun t => t.pnc.noise.env) =
    some ⟨15, 0⟩ := by decide

theorem test_wrNlo : (perform State.reset 0x40010D07#32).map (fun t => period t.raw aNLO aNHI) = some 7 := by decide

/-- Disabling the noise channel keeps its shift register (R125). -/
theorem test_wrNhi_disable :
    (perform (withPnc [(0x10E, 0x80)] { Pnc.reset with noise := ⟨5, 0x4001, ⟨2, 0⟩⟩ }) 0x40010E00#32).map
      (fun t => t.pnc.noise) = some ⟨0, 0x4001, ⟨2, 0⟩⟩ := by decide

theorem test_wrRsvd_ignored : perform State.reset 0x4000F055#32 = some State.reset := by decide

theorem test_rd_reserved_bits :
    (perform (withRaw [(0x087, 0xFE)]) 0x00008700#32).map (fun t => t.reads) = some [0xFE] := by decide

theorem test_rd_reserved_address : (perform State.reset 0x0000F000#32).map (fun t => t.reads) = some [0x00] := by
  decide

theorem test_adv_zero : perform State.reset 0x80000000#32 = some State.reset := by decide

/-- `ADV 53` from reset: three pairs `(0, 0)` and five cycles left. -/
theorem test_adv_residue :
    (perform State.reset 0x80000035#32).map (fun t => (t.samples, t.cycAcc)) =
      some ([⟨0, 0⟩, ⟨0, 0⟩, ⟨0, 0⟩], 5) := by decide +kernel

/-- `WR CVOL, 0x9F ; RST`, at the `RST`. -/
theorem test_rst :
    perform { withWfm [(0x080, 0x9F)] { Wfm.reset with cEnv := ⟨31, 0⟩ } with samples := [⟨1, 2⟩], reads := [3] }
      0xC0000000#32 = some { State.reset with samples := [⟨1, 2⟩], reads := [3] } := by decide

/-- Before the first RESET, READ is refused (R206). -/
theorem test_refused_before_reset :
    perform { State.reset with live := false } 0x00008000#32 =
      some { State.reset with live := false, report := some .beforeReset } := by decide

theorem test_refused_illegal_word :
    perform State.reset 0xC0000001#32 = some { State.reset with report := some (.illegal .zero30) } := by decide

/-! ### The units: one audio step each -/

/-- Program P1, step 16: the carrier enters entry 1, whose value is 20. -/
theorem test_step_carrier :
    (perform (withWfm [(0, 10), (1, 20), (0x080, 0x9F), (0x082, 0x81)]
        { Wfm.reset with cPhase := 61440, cEnv := ⟨31, 0⟩ }) 0x80000010#32).map
      (fun t => (t.wfm.cPhase, t.samples)) = some (65536, [⟨0, 4960⟩]) := by decide +kernel

/-- Program P6, step 14: high-side wrap of the modulation. -/
theorem test_step_modulation_high_wrap :
    (perform (withWfm [(2, 48), (0x04D, 3), (0x080, 0x9F), (0x082, 0x81), (0x083, 0xBF), (0x084, 0x80), (0x085, 0xFF),
        (0x086, 0x0F)] { cPhase := 132736, mPhase := 851760, bias := 48, cEnv := ⟨31, 0⟩, mEnv := ⟨63, 0⟩, egAcc := 0 })
      0x80000010#32).map (fun t => (t.wfm.cPhase, t.wfm.mPhase, t.wfm.bias, t.samples)) =
      some (133504, 917280, 52, [⟨0, 11907⟩]) := by decide +kernel

/-- Program P6, step 17: the bias wraps from 60 to -64, and the modulation takes the low-side wrap. -/
theorem test_step_modulation_low_wrap :
    (perform (withWfm [(2, 48), (0x050, 3), (0x080, 0x9F), (0x082, 0x81), (0x083, 0xBF), (0x084, 0x80), (0x085, 0xFF),
        (0x086, 0x0F)] { cPhase := 138112, mPhase := 1048320, bias := 60, cEnv := ⟨31, 0⟩, mEnv := ⟨63, 0⟩, egAcc := 0 })
      0x80000010#32).map (fun t => (t.wfm.cPhase, t.wfm.mPhase, t.wfm.bias)) =
      some (142464, 1113840, -64) := by decide +kernel

/-- Program P3, step 16: the level moves on the second envelope clock, and the same step outputs it. -/
theorem test_step_envelope :
    (perform (withWfm [(0, 63), (0x080, 0x41)] { Wfm.reset with cEnv := ⟨0, 1⟩, mEnv := ⟨2, 0⟩, egAcc := 1792 })
      0x80000010#32).map (fun t => (t.wfm.cEnv, t.wfm.mEnv, t.wfm.egAcc, t.samples)) =
      some (⟨1, 0⟩, ⟨1, 0⟩, 0, [⟨0, 504⟩]) := by decide +kernel

/-- Program P4, step 4: a PNC envelope clock, pulse, triangle, noise and the mix. -/
theorem test_step_pnc :
    (perform (withPnc [(0x100, 0x8A), (0x101, 0x07), (0x102, 0x80), (0x109, 0x03), (0x10A, 0x80), (0x10C, 0x10),
        (0x10D, 0x07), (0x10E, 0x80)]
        ⟨⟨0, 3, ⟨10, 0⟩⟩, ⟨0, 0, ⟨0, 0⟩⟩, ⟨0, 6⟩, ⟨0, 0x1000, ⟨15, 0⟩⟩, 0, 24⟩) 0x80000010#32).map (fun t => (t.pnc, t.samples)) =
      some (⟨⟨0, 4, ⟨10, 0⟩⟩, ⟨0, 0, ⟨0, 0⟩⟩, ⟨0, 8⟩, ⟨0, 0x0800, ⟨14, 0⟩⟩, 0, 0⟩, [⟨5376, 0⟩]) := by decide +kernel

/-- 95_test_vectors.md section 2.1. -/
theorem test_logToLinear :
    logToLinear 4189 0 = 63 ∧ logToLinear 28673 0 = 0 ∧ logToLinear 28672 (-10) = 1024 ∧
    logToLinear 12568 (-12) = 62503 ∧ logToLinear 122879 (-23) = 1 ∧ logToLinear 0 (-23) = 1073741824 ∧
    logMul 63 31 2396 (-10) = 10417 := by decide +kernel

/-- 95_test_vectors.md section 2.3. -/
theorem test_biasUpd :
    biasUpd 3 63 = -61 ∧ biasUpd 5 (-64) = 60 ∧ biasUpd 4 (-64) = 0 ∧ biasUpd 7 (-64) = 63 ∧ biasUpd 1 63 = -64 := by
  decide +kernel

/-- 95_test_vectors.md section 2.4. -/
theorem test_modValue :
    modValue (-1) 1 0x100 = -8 ∧ modValue (-64) 16 0x100 = -256 ∧ modValue 49 63 0x100 = -256 ∧
    modValue (-64) 63 0xFFF = 255 ∧ modValue (-5) 3 1 = -1 ∧ modValue 51 60 0x100 = 772 := by decide +kernel

/-- 95_test_vectors.md section 2.7. -/
theorem test_pncTimer :
    pncTimer 5 2 8 = (1, 4) ∧ pncTimer 2040 2047 8 = (0, 1) ∧ pncTimer 9 3 8 = (1, 4) ∧ pncTimer 3 7 0 = (3, 0) := by
  decide

/-! ### Assembler (R80, R81), lines of the spec's programs -/

theorem test_assemble_write : assembleLine Cfg.cfg0 "WR CWAVE[3], 63      ; entry".toList = some [0x4000033F] := by
  decide +kernel

theorem test_assemble_read : assembleLine Cfg.cfg0 "RD 0x0F0".toList = some [0x0000F000] := by decide +kernel

theorem test_assemble_pseudo :
    assembleLine Cfg.cfg0 "CFREQ 0x100, 1".toList = some [0x40008100, 0x40008281] ∧
    assembleLine Cfg.cfg0 "STEP 48".toList = some [0x80000300] := by decide +kernel

theorem test_assemble_refuses : assembleLine Cfg.cfg0 "WR CVOL, 256".toList = none := by decide +kernel

theorem test_withFetchWord :
    (match step (State.reset.withFetchWord 32 0x4000809F) with | .next t => some t.wfm.cEnv | _ => none) =
      some ⟨31, 0⟩ := by decide

/-! ### Witnesses: hypotheses met, at the boundaries of their ranges -/

/-- ADVANCE has a next state in every live state. -/
theorem adv_next (n : BitVec 30) {s : State} (h : s.live = true) : ∃ t, exec (.adv n) s = .next t :=
  ⟨_, execAdv_live h n⟩

theorem witness_DecodeEncodeRoundTrip : (Instr.wrRsvd 0x088 0xFF).wellFormed = true := by decide

theorem witness_EncodeDecodeRoundTrip : decode 0xBFFFFFFF#32 = .ok (.adv 1073741823) := by decide

theorem witness_StepRunsDecodedCommand :
    ({ State.reset with pending := [0x80000010#32] } : State).pending = 0x80000010#32 :: [] ∧
    decode 0x80000010#32 = .ok (.adv 16) := by decide

theorem witness_QuiescentWithoutCommand : State.reset.pending = [] := rfl

theorem witness_RefusedCommandsChangeNothing :
    (({ State.reset with pending := [0x00000001#32] } : State).pending = 0x00000001#32 :: [] ∧
      decode 0x00000001#32 = .error .zero8) ∧
    (({ State.reset with live := false } : State).live = false ∧ Instr.adv 0 ≠ .rst) := by decide

theorem witness_StreamsOnlyGrow :
    step { State.reset with pending := [0x00000000#32] } = .next { State.reset with reads := [0] } ∧
    ({ State.reset with pending := [0x00000000#32] } : State).live = true := ⟨perform_next (by decide), rfl⟩

theorem witness_ReadAppendsRegisterByte : State.reset.live = true := rfl

theorem witness_ReservedWriteChangesNothing : State.reset.live = true ∧ implemented 0x088 = false ∧
    implemented 0x0FF = false ∧ implemented 0x103 = false ∧ implemented 0x107 = false ∧ implemented 0x108 = false ∧
    implemented 0x10B = false ∧ implemented 0x10F = false ∧ implemented 0x1FF = false := by decide

theorem witness_WriteThenReadReturnsByte : State.reset.live = true ∧ implemented 0x000 = true ∧
    implemented 0x07F = true ∧ implemented 0x080 = true ∧ implemented 0x087 = true ∧ implemented 0x100 = true ∧
    implemented 0x102 = true ∧ implemented 0x10E = true := by decide

theorem witness_WaveTableWrites : State.reset.live = true := rfl
theorem witness_FrequencyByteWrites : State.reset.live = true := rfl
theorem witness_CarrierHighWrite :
    State.reset.live = true ∧ (0x80#8)[7] = true ∧ (0x7F#8)[7] = false := by decide
theorem witness_ModulatorControlWrite :
    State.reset.live = true ∧ (0x80#8)[7] = true ∧ (0x7F#8)[7] = false := by decide
theorem witness_VolumeWrites : State.reset.live = true ∧ (0x80#8)[7] = true ∧ (0x7F#8)[7] = false := by decide
theorem witness_MasterWrite : State.reset.live = true := rfl
theorem witness_PulseControlWrites :
    State.reset.live = true ∧ (0x10#8)[4] = true ∧ (0xEF#8)[4] = false := by decide
theorem witness_PeriodLowWrites : State.reset.live = true := rfl
theorem witness_PulseHighWrites : State.reset.live = true ∧ (0x80#8)[7] = true ∧ (0x7F#8)[7] = false := by decide
theorem witness_TriangleHighWrite : State.reset.live = true ∧ (0x80#8)[7] = true ∧ (0x7F#8)[7] = false := by decide
theorem witness_NoiseWrites :
    State.reset.live = true ∧ (0x10#8)[4] = true ∧ (0xEF#8)[4] = false ∧ (0x80#8)[7] = true ∧
    (0x7F#8)[7] = false := by decide

theorem witness_AdvanceRunsWholeSteps : State.reset.live = true := rfl

theorem witness_AdvanceZeroChangesNothing :
    ({ State.reset with cycAcc := 15 } : State).live = true ∧
    ({ State.reset with cycAcc := 15 } : State).cycAcc < Cfg.cfg0.cps := by decide

theorem witness_AdvanceSplitsFreely : State.reset.live = true ∧
    (53 : BitVec 30).toNat + (1073741770 : BitVec 30).toNat < 2 ^ 30 ∧
    ∃ t, exec (.adv 53) State.reset = .next t := ⟨rfl, by decide, adv_next 53 rfl⟩

/-- Two states that differ in the PNC only, and two that differ in the WFM only. -/
theorem witness_UnitsShareNoState :
    (∃ s s' : State, s.live = true ∧ s'.live = true ∧ s'.cfg = s.cfg ∧ s'.raw = s.raw ∧ s'.cycAcc = s.cycAcc ∧
      (∃ t, exec (.adv 16) s = .next t) ∧ (∃ t', exec (.adv 16) s' = .next t') ∧ s'.wfm = s.wfm ∧ s'.pnc ≠ s.pnc) ∧
    (∃ s s' : State, s.live = true ∧ s'.live = true ∧ s'.cfg = s.cfg ∧ s'.raw = s.raw ∧ s'.cycAcc = s.cycAcc ∧
      (∃ t, exec (.adv 16) s = .next t) ∧ (∃ t', exec (.adv 16) s' = .next t') ∧ s'.pnc = s.pnc ∧ s'.wfm ≠ s.wfm) :=
  ⟨⟨withPnc [] Pnc.reset, withPnc [] { Pnc.reset with divAcc := 1 }, rfl, rfl, rfl, rfl, rfl, adv_next 16 rfl,
      adv_next 16 rfl, rfl, by decide⟩,
    ⟨withWfm [] Wfm.reset, withWfm [] { Wfm.reset with egAcc := 1 }, rfl, rfl, rfl, rfl, rfl, adv_next 16 rfl,
      adv_next 16 rfl, rfl, by decide⟩⟩

theorem witness_FirstResetForgetsPowerOnValues :
    State.PowerOn { withWfm [(0x080, 0x9F)] { Wfm.reset with bias := 5 } with live := false } := ⟨rfl, rfl, rfl⟩

theorem witness_LinearTableIsExact : (1 : BitVec 7) ≠ 0 ∧ (127 : BitVec 7) ≠ 0 := by decide

theorem witness_LogToLinearDividesTableEntry :
    (-23 : Int) ≤ -23 ∧ 122880 ≤ 122880 ∧ 122879 < 122880 := by decide

theorem witness_ScalerIsMonotone :
    (-23 : Int) ≤ -10 ∧ (62 : BitVec 7).toNat ≤ (63 : BitVec 7).toNat ∧
    (0 : BitVec 7).toNat ≤ (127 : BitVec 7).toNat ∧ 0 ≤ 2396 ∧ (0 : BitVec 7) = 0 := by decide

theorem witness_BiasWrapReachesRange : (-64 : Int) ≤ -64 ∧ (63 : Int) ≤ 63 := by decide

theorem witness_BiasUpdateFollowsTable :
    ((-64 : Int) ≤ -64 ∧ (-64 : Int) ≤ 63) ∧ ((-64 : Int) ≤ 63 ∧ (63 : Int) ≤ 63) := by decide

theorem witness_ModulatorAdvanceAppliesEntriesInOrder :
    men [] = false ∧ men [(0x084, 0x7F)] = false ∧ men [(0x084, 0x80)] = true := by decide

theorem witness_ModulationStaysInRange :
    ((-64 : Int) ≤ -64 ∧ (-64 : Int) ≤ 63) ∧ ((-64 : Int) ≤ 63 ∧ (63 : Int) ≤ 63) := by decide

/-- Disabled; enabled with a combined frequency just below 0, and of 0. -/
theorem witness_CarrierAdvancesByEffectiveFrequency :
    cen [] = false ∧ cen [(0x082, 0x80)] = true ∧ ((cfreq [(0x082, 0x80)]).toNat + (-1) : Int) < 0 ∧
    (0 : Int) ≤ (cfreq [(0x082, 0x80)]).toNat + 0 := by decide

theorem witness_EnvelopeClocksNeverDrift :
    ({ State.reset with wfm := { Wfm.reset with egAcc := 2047 } } : State).live = true ∧
    2047 < Cfg.cfg0.egPeriodFx ∧
    ∃ t, exec (.adv 16) { State.reset with wfm := { Wfm.reset with egAcc := 2047 } } = .next t :=
  ⟨rfl, by decide, adv_next 16 rfl⟩

/-- Each clause, with the counter just below the limit and at it. -/
theorem witness_EnvelopeTickRules :
    (0x80#8)[7] = true ∧ ((0x41#8)[7] = false ∧ (0 : BitVec 6).toNat < (0x41#8).toNat % 64) ∧
    ((0x41#8)[7] = false ∧ (0x41#8).toNat % 64 ≤ (1 : BitVec 6).toNat) ∧ (0x0F#8)[4] = false ∧
    ((0x11#8)[4] = true ∧ (0 : BitVec 4).toNat < (0x11#8).toNat % 16) ∧
    ((0x11#8)[4] = true ∧ (0x11#8).toNat % 16 ≤ (1 : BitVec 4).toNat) := by decide

theorem witness_FixedVolumeNeverMoves :
    (withRaw [(0x080, 0x80), (0x083, 0x80)]).live = true ∧
    (∃ t, exec (.adv 16) (withRaw [(0x080, 0x80), (0x083, 0x80)]) = .next t) ∧
    ((withRaw [(0x080, 0x80), (0x083, 0x80)]).raw.byte aCVOL)[7] = true ∧
    ((withRaw [(0x080, 0x80), (0x083, 0x80)]).raw.byte aMVOL)[7] = true := ⟨rfl, adv_next 16 rfl, by decide, by decide⟩

/-- Ramp up from 31, where both ramp-up clauses say 31, and from 32; ramp down. -/
theorem witness_EnvelopeRampLaws :
    ((0x40#8)[7] = false ∧ (⟨31, 0⟩ : WfmEnv).cnt = 0 ∧ (0x40#8)[6] = true ∧ (31 : BitVec 6).toNat ≤ 31) ∧
    ((0x40#8)[7] = false ∧ (⟨32, 0⟩ : WfmEnv).cnt = 0 ∧ 31 ≤ (32 : BitVec 6).toNat) ∧
    ((0x3F#8)[7] = false ∧ (⟨63, 0⟩ : WfmEnv).cnt = 0 ∧ (0x3F#8)[6] = false) := by decide

/-- Program P1's block before its `ADV 768`. -/
def carrierAlone : State :=
  withWfm [(0, 10), (1, 20), (2, 40), (3, 63), (0x080, 0x9F), (0x082, 0x81)] { Wfm.reset with cEnv := ⟨31, 0⟩ }

theorem witness_UnmodulatedCarrierPlaysItsTable :
    carrierAlone.live = true ∧ cen carrierAlone.raw = true ∧ men carrierAlone.raw = false ∧
    carrierAlone.wfm.bias = 0 ∧ fixedMode (carrierAlone.raw.byte aCVOL) = true ∧
    ∃ t, exec (.adv 768) carrierAlone = .next t :=
  ⟨rfl, by decide, by decide, by decide, by decide, adv_next _ rfl⟩

theorem witness_PncEnvelopeDecayLaw :
    ((0x10#8)[4] = true ∧ (⟨15, 0⟩ : PncEnv).cnt = 0) ∧ (0x0F#8)[4] = false := by decide

theorem witness_PncClocksNeverDrift :
    (withPnc [] { Pnc.reset with divAcc := 1, envAcc := 31 }).live = true ∧ 1 < Cfg.cfg0.pncDiv ∧
    31 < Cfg.cfg0.pncEnvPeriod ∧
    ∃ t, exec (.adv 16) (withPnc [] { Pnc.reset with divAcc := 1, envAcc := 31 }) = .next t :=
  ⟨rfl, by decide, by decide, adv_next 16 rfl⟩

/-- All four channels enabled with period 7, every timer at its largest value 7. -/
def fourEnabled : State :=
  withPnc [(0x101, 7), (0x102, 0x80), (0x105, 7), (0x106, 0x80), (0x109, 7), (0x10A, 0x80), (0x10D, 7), (0x10E, 0x80)]
    ⟨⟨7, 0, ⟨0, 0⟩⟩, ⟨7, 0, ⟨0, 0⟩⟩, ⟨7, 0⟩, ⟨7, 1, ⟨0, 0⟩⟩, 1, 0⟩

theorem witness_OscillatorsAdvanceExactly :
    fourEnabled.live = true ∧ fourEnabled.pnc.divAcc < fourEnabled.cfg.pncDiv ∧
    (∃ t, exec (.adv 16) fourEnabled = .next t) ∧
    (enabled fourEnabled.raw aP0HI = true ∧
      fourEnabled.pnc.p0.acc.toNat ≤ (period fourEnabled.raw aP0LO aP0HI).toNat) ∧
    (enabled fourEnabled.raw aP1HI = true ∧
      fourEnabled.pnc.p1.acc.toNat ≤ (period fourEnabled.raw aP1LO aP1HI).toNat) ∧
    (enabled fourEnabled.raw aTHI = true ∧
      fourEnabled.pnc.tri.acc.toNat ≤ (period fourEnabled.raw aTLO aTHI).toNat) ∧
    (enabled fourEnabled.raw aNHI = true ∧
      fourEnabled.pnc.noise.acc.toNat ≤ (period fourEnabled.raw aNLO aNHI).toNat) :=
  ⟨rfl, by decide, adv_next 16 rfl, by decide, by decide, by decide, by decide⟩

theorem witness_DisabledChannelsAreSilent :
    State.reset.live = true ∧ enabled State.reset.raw aP0HI = false ∧ enabled State.reset.raw aP1HI = false ∧
    enabled State.reset.raw aTHI = false ∧ enabled State.reset.raw aNHI = false ∧
    ∃ t, exec (.adv 16) State.reset = .next t :=
  ⟨rfl, by decide, by decide, by decide, by decide, adv_next _ rfl⟩

theorem witness_PulseOutputFollowsDuty :
    enabled [(0x102, 0x7F)] aP0HI = false ∧ enabled [(0x102, 0x80)] aP0HI = true := by decide

theorem witness_TriangleOutputFollowsSequence :
    enabled [(0x10A, 0x7F)] aTHI = false ∧ enabled [(0x10A, 0x80)] aTHI = true := by decide

theorem witness_ShiftRegisterHasFullPeriod :
    lfsrShift 1 = lfsrShift 1 ∧ 0 < 1 ∧ 1 < 32767 ∧ 0 < 32766 ∧ 32766 < 32767 := by decide

theorem witness_NoiseOutputFollowsShiftRegister :
    enabled [(0x10E, 0x7F)] aNHI = false ∧ enabled [(0x10E, 0x80)] aNHI = true := by decide

/-- A running block with one ADVANCE pending: carrier and modulator enabled, bias at its lower bound. -/
def runningBlock : State :=
  { withWfm [(0x080, 0x9F), (0x082, 0x81), (0x083, 0x43), (0x084, 0x80)]
      { cPhase := 5, mPhase := 6, bias := -64, cEnv := ⟨31, 0⟩, mEnv := ⟨2, 3⟩, egAcc := 2047 } with
    cycAcc := 15, pending := [0x80000001#32] }

theorem witness_InvariantKeptByEveryStep : runningBlock.Inv ∧ ∃ t, step runningBlock = .next t :=
  ⟨fun _ => by constructor <;> decide, _, rfl⟩

theorem witness_PseudoInstructionsSetFrequencies : State.reset.live = true := rfl

end Sys2Proof.Tests
end

section
/-! PROOFS. Scope: one step performs one command of the host's sequence (spec/00_scope.md R12,
spec/40_host_commands.md R95). -/

namespace Sys2Proof.Proofs

open Sys2Proof Sys2Proof.Machine

/-- A step whose next command word is legal performs its command on the state left by taking the word. -/
theorem step_of_nextCommand_of_decode {s s' : State} {w : Hcw} {i : Instr}
    (hnext : s.nextCommand = some (w, s')) (hdecode : decode w = .ok i) : step s = exec i s' := by
  unfold step
  simp only [hnext, hdecode]

/-- Settles O5: taking a word off a non-empty sequence gives exactly the state the statement names. -/
theorem stepRunsDecodedCommand : Obligations.StepRunsDecodedCommand := by
  intro s w rest i hpending hdecode
  exact step_of_nextCommand_of_decode (State.nextCommand_cons hpending) hdecode

end Sys2Proof.Proofs
end

section
/-! PROOFS. Scope: what a command can do to the state, said once as an inversion lemma, and the invariants over every
step: the streams grow (spec/10_state.md R40, R41, R43) and the regular states are kept (R46). -/

namespace Sys2Proof.Proofs

open Sys2Proof Sys2Proof.Machine

/-! ### The registers whose value constrains a unit's internal state -/

/-- A register that R46 ties to internal state; every other register is free of side effects (R91). -/
inductive ControlReg where
  | cvol | cfhi | mvol | mctl | p0ctl | p0hi | p1ctl | p1hi | thi | nctl | nhi

/-- The local address of a control register. -/
def ControlReg.addr : ControlReg → Addr
  | .cvol => aCVOL
  | .cfhi => aCFHI
  | .mvol => aMVOL
  | .mctl => aMCTL
  | .p0ctl => aP0CTL
  | .p0hi => aP0HI
  | .p1ctl => aP1CTL
  | .p1hi => aP1HI
  | .thi => aTHI
  | .nctl => aNCTL
  | .nhi => aNHI

/-- The side effect of writing a control register on the WFM unit (R152, R154 to R156). -/
def ControlReg.wfmAfter (k : ControlReg) (data : Byte) (u : Wfm) : Wfm :=
  match k with
  | .cvol => { u with cEnv := wfmVolWrite data u.cEnv }
  | .cfhi => { u with cPhase := if enableBit data then u.cPhase else 0 }
  | .mvol => { u with mEnv := wfmVolWrite data u.mEnv }
  | .mctl => { u with bias := 0, mPhase := if enableBit data then u.mPhase else 0 }
  | _ => u

/-- The side effect of writing a control register on the PNC unit (R115, R117, R118, R120, R122, R123, R125). -/
def ControlReg.pncAfter (k : ControlReg) (data : Byte) (u : Pnc) : Pnc :=
  match k with
  | .p0ctl => { u with p0 := { u.p0 with env := pncCtlEnv data } }
  | .p0hi => { u with p0 :=
      { u.p0 with acc := if enableBit data then u.p0.acc else 0, seq := if enableBit data then u.p0.seq else 0 } }
  | .p1ctl => { u with p1 := { u.p1 with env := pncCtlEnv data } }
  | .p1hi => { u with p1 :=
      { u.p1 with acc := if enableBit data then u.p1.acc else 0, seq := if enableBit data then u.p1.seq else 0 } }
  | .thi => { u with tri :=
      { acc := if enableBit data then u.tri.acc else 0, seq := if enableBit data then u.tri.seq else 0 } }
  | .nctl => { u with noise := { u.noise with env := pncCtlEnv data } }
  | .nhi => { u with noise := { u.noise with acc := if enableBit data then u.noise.acc else 0 } }
  | _ => u

/-- The state after a write to a control register. -/
def ControlReg.write (k : ControlReg) (data : Byte) (s : State) : State :=
  { s.store k.addr data with wfm := k.wfmAfter data s.wfm, pnc := k.pncAfter data s.pnc }

/-- The addresses of the control registers. -/
def controlAddrs : List Addr :=
  [aCVOL, aCFHI, aMVOL, aMCTL, aP0CTL, aP0HI, aP1CTL, aP1HI, aTHI, aNCTL, aNHI]

theorem ControlReg.addr_mem (k : ControlReg) : k.addr ∈ controlAddrs := by
  cases k <;> decide

theorem ControlReg.addr_injective {j k : ControlReg} (h : j.addr = k.addr) : j = k := by
  cases k with
  | cvol => cases j with | cvol => rfl | _ => exact absurd h (by decide)
  | cfhi => cases j with | cfhi => rfl | _ => exact absurd h (by decide)
  | mvol => cases j with | mvol => rfl | _ => exact absurd h (by decide)
  | mctl => cases j with | mctl => rfl | _ => exact absurd h (by decide)
  | p0ctl => cases j with | p0ctl => rfl | _ => exact absurd h (by decide)
  | p0hi => cases j with | p0hi => rfl | _ => exact absurd h (by decide)
  | p1ctl => cases j with | p1ctl => rfl | _ => exact absurd h (by decide)
  | p1hi => cases j with | p1hi => rfl | _ => exact absurd h (by decide)
  | thi => cases j with | thi => rfl | _ => exact absurd h (by decide)
  | nctl => cases j with | nctl => rfl | _ => exact absurd h (by decide)
  | nhi => cases j with | nhi => rfl | _ => exact absurd h (by decide)

/-- Every control register is implemented, and lies beyond the waveform tables. -/
theorem implemented_of_mem_controlAddrs : ∀ a ∈ controlAddrs, implemented a = true ∧ 0x80 ≤ a.toNat := by
  decide

/-- A register whose write has no side effect. -/
def PlainReg (a : Addr) : Prop := implemented a = true ∧ a ∉ controlAddrs

/-! ### What a command can do -/

/-- Everything a command can do to `s`: the states it can answer, each with the condition under which it does. -/
inductive CommandEffect (s : State) : State → Prop where
  /-- Refused before the first RESET (R206 (b)). -/
  | refused (hdead : s.live = false) : CommandEffect s (s.refuse .beforeReset)
  /-- A write to a reserved address (R96). -/
  | nothing (hlive : s.live = true) : CommandEffect s s
  /-- READ (R90). -/
  | read (hlive : s.live = true) (a : Addr) : CommandEffect s (s.emitRead (readByte s.raw a))
  /-- ADVANCE (R92). -/
  | advance (hlive : s.live = true) (count : BitVec 30) :
      CommandEffect s
        (Nat.iterate audioStep (s.stepsIn count) { s with cycAcc := (s.cycAcc + count.toNat) % s.cfg.cps })
  /-- RESET (R93). -/
  | reset : CommandEffect s { s with
      live := true, cycAcc := 0, raw := Memory.resetImage s.cfg, wfm := Wfm.reset, pnc := Pnc.reset }
  /-- A write without side effect (R91). -/
  | plainWrite (hlive : s.live = true) (a : Addr) (data : Byte) (hplain : PlainReg a) :
      CommandEffect s (s.store a data)
  /-- A write to a control register. -/
  | controlWrite (hlive : s.live = true) (k : ControlReg) (data : Byte) : CommandEffect s (k.write data s)

/-- A command that needs `live = 1` is refused or has the effect it has while live. -/
theorem commandEffect_of_whenLive {s t : State} {f : State → State} (h : whenLive s f = .next t)
    (hf : s.live = true → CommandEffect s (f s)) : CommandEffect s t := by
  obtain ⟨hlive, rfl⟩ | ⟨hdead, rfl⟩ := whenLive_cases h
  · exact hf hlive
  · exact .refused hdead

theorem plainWrite_effect {i : Instr} {s t : State} {a : Addr} {data : Byte} (h : exec i s = .next t)
    (hplain : PlainReg a) (hexec : exec i s = whenLive s fun s => s.store a data) : CommandEffect s t :=
  commandEffect_of_whenLive (hexec.symm.trans h) fun hlive => .plainWrite hlive a data hplain

theorem controlWrite_effect {i : Instr} {s t : State} {data : Byte} (h : exec i s = .next t)
    (k : ControlReg) (hexec : exec i s = whenLive s (k.write data)) : CommandEffect s t :=
  commandEffect_of_whenLive (hexec.symm.trans h) fun hlive => .controlWrite hlive k data

/-- The waveform tables are plain registers: they end below the control registers. -/
theorem plainReg_of_lt {a : Addr} (h : a.toNat < 0x80) : PlainReg a := by
  refine ⟨by simp [implemented]; omega, fun hmem => ?_⟩
  have := (implemented_of_mem_controlAddrs a hmem).2
  omega

theorem cwaveAddr_lt (i : BitVec 6) : (cwaveAddr i).toNat < 0x80 := by
  have : (cwaveAddr i).toNat = 0 <<< 6 ||| i.toNat := BitVec.toNat_append _ _
  rw [this]
  exact Nat.or_lt_two_pow (n := 7) (by decide) (by omega)

theorem mwaveAddr_lt (i : BitVec 6) : (mwaveAddr i).toNat < 0x80 := by
  have : (mwaveAddr i).toNat = 1 <<< 6 ||| i.toNat := BitVec.toNat_append _ _
  rw [this]
  exact Nat.or_lt_two_pow (n := 7) (by decide) (by omega)

/-- A high register write of a pulse channel, field by field (R117, R120). -/
theorem pulseHiWrite_eq (data : Byte) (p : Pulse) :
    pulseHiWrite data p =
      { p with acc := if enableBit data then p.acc else 0, seq := if enableBit data then p.seq else 0 } := by
  cases h : enableBit data <;> simp [pulseHiWrite, h]

theorem execWrP0hi_eq (data : Byte) (s : State) :
    execWrP0hi data s = whenLive s (ControlReg.p0hi.write data) := by
  simp only [execWrP0hi, pulseHiWrite_eq]; rfl

theorem execWrP1hi_eq (data : Byte) (s : State) :
    execWrP1hi data s = whenLive s (ControlReg.p1hi.write data) := by
  simp only [execWrP1hi, pulseHiWrite_eq]; rfl

theorem execWrCfhi_eq (data : Byte) (s : State) :
    execWrCfhi data s = whenLive s (ControlReg.cfhi.write data) := by
  unfold execWrCfhi ControlReg.write ControlReg.wfmAfter
  cases enableBit data <;> rfl

theorem execWrMctl_eq (data : Byte) (s : State) :
    execWrMctl data s = whenLive s (ControlReg.mctl.write data) := by
  unfold execWrMctl ControlReg.write ControlReg.wfmAfter
  cases enableBit data <;> rfl

theorem execWrThi_eq (data : Byte) (s : State) :
    execWrThi data s = whenLive s (ControlReg.thi.write data) := by
  unfold execWrThi ControlReg.write ControlReg.pncAfter
  cases enableBit data <;> rfl

theorem execWrNhi_eq (data : Byte) (s : State) :
    execWrNhi data s = whenLive s (ControlReg.nhi.write data) := by
  unfold execWrNhi ControlReg.write ControlReg.pncAfter
  cases enableBit data <;> rfl

/-- The inversion lemma of `exec`: a command's answer is one of its effects. -/
theorem exec_effect {i : Instr} {s t : State} (h : exec i s = .next t) : CommandEffect s t := by
  cases i with
  | wrCwave i data => exact plainWrite_effect h (plainReg_of_lt (cwaveAddr_lt i)) rfl
  | wrMwave i data => exact plainWrite_effect h (plainReg_of_lt (mwaveAddr_lt i)) rfl
  | wrCflo data => exact plainWrite_effect (a := aCFLO) h ⟨rfl, by decide⟩ rfl
  | wrMflo data => exact plainWrite_effect (a := aMFLO) h ⟨rfl, by decide⟩ rfl
  | wrMfhi data => exact plainWrite_effect (a := aMFHI) h ⟨rfl, by decide⟩ rfl
  | wrMaster data => exact plainWrite_effect (a := aMASTER) h ⟨rfl, by decide⟩ rfl
  | wrP0lo data => exact plainWrite_effect (a := aP0LO) h ⟨rfl, by decide⟩ rfl
  | wrP1lo data => exact plainWrite_effect (a := aP1LO) h ⟨rfl, by decide⟩ rfl
  | wrTlo data => exact plainWrite_effect (a := aTLO) h ⟨rfl, by decide⟩ rfl
  | wrNlo data => exact plainWrite_effect (a := aNLO) h ⟨rfl, by decide⟩ rfl
  | wrCvol data => exact controlWrite_effect h .cvol rfl
  | wrMvol data => exact controlWrite_effect h .mvol rfl
  | wrP0ctl data => exact controlWrite_effect h .p0ctl rfl
  | wrP1ctl data => exact controlWrite_effect h .p1ctl rfl
  | wrNctl data => exact controlWrite_effect h .nctl rfl
  | wrCfhi data => exact controlWrite_effect h .cfhi (execWrCfhi_eq data s)
  | wrMctl data => exact controlWrite_effect h .mctl (execWrMctl_eq data s)
  | wrP0hi data => exact controlWrite_effect h .p0hi (execWrP0hi_eq data s)
  | wrP1hi data => exact controlWrite_effect h .p1hi (execWrP1hi_eq data s)
  | wrThi data => exact controlWrite_effect h .thi (execWrThi_eq data s)
  | wrNhi data => exact controlWrite_effect h .nhi (execWrNhi_eq data s)
  | wrRsvd addr data => exact commandEffect_of_whenLive (f := id) h .nothing
  | rd addr =>
    exact commandEffect_of_whenLive (f := fun s => s.emitRead (readByte s.raw addr)) h fun hlive => .read hlive addr
  | adv count =>
    change execAdv count s = .next t at h
    exact commandEffect_of_whenLive h fun hlive => .advance hlive count
  | rst =>
    obtain rfl := Host.Outcome.next.inj h
    exact .reset

/-! ### The streams grow (R40, R41, R43) -/

/-- `t` is `s` with streams that may have grown, of the same configuration, and live if `s` is. -/
def Grows (s t : State) : Prop :=
  s.samples <+: t.samples ∧ s.reads <+: t.reads ∧ t.cfg = s.cfg ∧ (s.live = true → t.live = true)

theorem Grows.refl (s : State) : Grows s s := ⟨List.prefix_refl _, List.prefix_refl _, rfl, id⟩

theorem Grows.trans {s t u : State} (hst : Grows s t) (htu : Grows t u) : Grows s u := by
  obtain ⟨hsamples, hreads, hcfg, hlive⟩ := hst
  obtain ⟨hsamples', hreads', hcfg', hlive'⟩ := htu
  exact ⟨hsamples.trans hsamples', hreads.trans hreads', hcfg'.trans hcfg, hlive' ∘ hlive⟩

theorem grows_audioStep (s : State) : Grows s (audioStep s) :=
  ⟨List.prefix_append _ _, List.prefix_refl _, rfl, id⟩

theorem grows_audioSteps (n : Nat) (s : State) : Grows s (Nat.iterate audioStep n s) :=
  iterate_keeps (Grows s) audioStep (fun t ht => ht.trans (grows_audioStep t)) n s (.refl s)

theorem CommandEffect.grows {s t : State} (h : CommandEffect s t) : Grows s t := by
  cases h with
  | refused _ => exact Grows.refl s
  | nothing _ => exact Grows.refl s
  | read _ a => exact ⟨List.prefix_refl _, List.prefix_append _ _, rfl, id⟩
  | advance _ count =>
    exact grows_audioSteps (s.stepsIn count) { s with cycAcc := (s.cycAcc + count.toNat) % s.cfg.cps }
  | reset => exact ⟨List.prefix_refl _, List.prefix_refl _, rfl, fun _ => rfl⟩
  | plainWrite _ a data _ => exact Grows.refl s
  | controlWrite _ k data => exact Grows.refl s

/-- Settles O9: a refusal or an idle step leaves the streams alone, and a command has one of its effects. -/
theorem streamsOnlyGrow : Obligations.StreamsOnlyGrow := by
  intro s t hstep
  obtain ⟨_, rfl⟩ | ⟨w, rest, e, _, _, rfl⟩ | ⟨w, rest, i, _, _, hexec⟩ := step_cases hstep
  · exact Grows.refl t
  · exact Grows.refl s
  · exact (exec_effect hexec).grows

/-! ### The regular states, register by register (R46) -/

/-- A WFM envelope as its volume register demands: the counter within the rate, a fixed level equal to the register
(R46 (c), (d)). -/
def EnvFits (reg : Byte) (e : WfmEnv) : Prop :=
  e.cnt.toNat ≤ (volField reg).toNat ∧ (fixedMode reg = true → e.lvl = volField reg)

/-- What a control register holding `v` demands of the internal state of the units (R46 (b), (c), (d), (g), (h)). -/
def ControlReg.Demand (k : ControlReg) (v : Byte) (w : Wfm) (p : Pnc) : Prop :=
  match k with
  | .cvol => EnvFits v w.cEnv
  | .cfhi => enableBit v = false → w.cPhase = 0
  | .mvol => EnvFits v w.mEnv
  | .mctl => enableBit v = false → w.mPhase = 0 ∧ w.bias = 0
  | .p0ctl => p.p0.env.cnt.toNat ≤ (valField v).toNat
  | .p0hi => enableBit v = false → p.p0.acc = 0 ∧ p.p0.seq = 0
  | .p1ctl => p.p1.env.cnt.toNat ≤ (valField v).toNat
  | .p1hi => enableBit v = false → p.p1.acc = 0 ∧ p.p1.seq = 0
  | .thi => enableBit v = false → p.tri.acc = 0 ∧ p.tri.seq = 0
  | .nctl => p.noise.env.cnt.toNat ≤ (valField v).toNat
  | .nhi => enableBit v = false → p.noise.acc = 0

/-- The register-independent bounds of the WFM unit (R46 (a), (e)). -/
def WfmBounded (c : Cfg) (w : Wfm) : Prop := (-64 ≤ w.bias ∧ w.bias ≤ 63) ∧ w.egAcc < c.egPeriodFx

/-- The register-independent bounds of the PNC unit (R46 (e), (f)). -/
def PncBounded (c : Cfg) (p : Pnc) : Prop :=
  p.divAcc < c.pncDiv ∧ p.envAcc < c.pncEnvPeriod ∧ p.noise.lfsr ≠ 0

/-- `State.Regular` by part: the register file, the bounds of the host side and of each unit, and what each control
register demands. -/
theorem regular_iff_parts (s : State) :
    s.Regular ↔ Memory.wf s.raw ∧ s.cycAcc < s.cfg.cps ∧ WfmBounded s.cfg s.wfm ∧ PncBounded s.cfg s.pnc ∧
      ∀ k : ControlReg, k.Demand (s.raw.byte k.addr) s.wfm s.pnc := by
  constructor
  · intro h
    refine ⟨h.rawCanonical, h.cyclesLeft, ⟨h.biasRange, h.egLeft⟩, ⟨h.divLeft, h.envLeft, h.lfsrNonzero⟩,
      fun k => ?_⟩
    cases k with
    | cvol => exact ⟨h.carrierCount, h.carrierFixed⟩
    | cfhi => exact h.carrierOff
    | mvol => exact ⟨h.modulatorCount, h.modulatorFixed⟩
    | mctl => exact h.modulatorOff
    | p0ctl => exact h.pulse0Count
    | p0hi => exact h.pulse0Off
    | p1ctl => exact h.pulse1Count
    | p1hi => exact h.pulse1Off
    | thi => exact h.triangleOff
    | nctl => exact h.noiseCount
    | nhi => exact h.noiseOff
  · rintro ⟨hwf, hcyc, ⟨hbias, heg⟩, ⟨hdiv, henv, hlfsr⟩, hdemand⟩
    exact {
      rawCanonical := hwf, biasRange := hbias, cyclesLeft := hcyc, egLeft := heg, divLeft := hdiv, envLeft := henv
      lfsrNonzero := hlfsr
      carrierOff := hdemand .cfhi, modulatorOff := hdemand .mctl
      carrierCount := (hdemand .cvol).1, carrierFixed := (hdemand .cvol).2
      modulatorCount := (hdemand .mvol).1, modulatorFixed := (hdemand .mvol).2
      pulse0Off := hdemand .p0hi, pulse1Off := hdemand .p1hi, triangleOff := hdemand .thi, noiseOff := hdemand .nhi
      pulse0Count := hdemand .p0ctl, pulse1Count := hdemand .p1ctl, noiseCount := hdemand .nctl }

/-! ### RESET gives a regular state -/

/-- Whatever was there before, the elements RESET sets make the state regular: outside the waveform tables every
register is 0 (R42). -/
theorem regular_of_reset {s : State} (hcyc : s.cycAcc = 0) (hraw : s.raw = Memory.resetImage s.cfg)
    (hwfm : s.wfm = Wfm.reset) (hpnc : s.pnc = Pnc.reset) : s.Regular := by
  rw [regular_iff_parts, hcyc, hraw, hwfm, hpnc]
  refine ⟨Memory.resetImage_wf _, s.cfg.cps_pos, ⟨by decide, s.cfg.egPeriodFx_pos⟩,
    ⟨s.cfg.pncDiv_pos, s.cfg.pncEnvPeriod_pos, by decide⟩, fun k => ?_⟩
  have hzero : (Memory.resetImage s.cfg).byte k.addr = 0#8 :=
    Memory.read_resetImage_high _ (by cases k <;> decide)
  rw [hzero]
  cases k with
  | cvol | mvol => exact ⟨Nat.zero_le _, fun _ => rfl⟩
  | cfhi | nhi => exact fun _ => rfl
  | mctl | p0hi | p1hi | thi => exact fun _ => ⟨rfl, rfl⟩
  | p0ctl | p1ctl | nctl => exact Nat.zero_le _

theorem regular_resetWith (c : Cfg) : (State.resetWith c).Regular :=
  regular_of_reset rfl rfl rfl rfl

/-- Settles O58: the state after RESET holds the elements RESET sets, in every configuration. -/
theorem invariantHoldsAfterReset : Obligations.InvariantHoldsAfterReset :=
  ⟨regular_resetWith, fun _ => regular_resetWith Cfg.cfg0⟩

/-! ### A write keeps the regular states -/

/-- A store where no control register lies changes no demand. -/
theorem regular_plainWrite {s : State} {a : Addr} (data : Byte) (hplain : PlainReg a) (h : s.Regular) :
    (s.store a data).Regular := by
  rw [regular_iff_parts] at h ⊢
  obtain ⟨hwf, hcyc, hwfm, hpnc, hdemand⟩ := h
  obtain ⟨himpl, hfree⟩ := hplain
  refine ⟨Memory.write_wf _ _ _ himpl hwf, hcyc, hwfm, hpnc, fun k => ?_⟩
  have hother : k.addr ≠ a := fun hsame => hfree (hsame ▸ k.addr_mem)
  rw [State.store_byte, if_neg hother]
  exact hdemand k

/-- The side effect of a write brings about what the byte written demands. -/
theorem ControlReg.demand_write (k : ControlReg) (data : Byte) (w : Wfm) (p : Pnc) :
    k.Demand data (k.wfmAfter data w) (k.pncAfter data p) := by
  cases k with
  | cvol | mvol => exact ⟨Nat.zero_le _, fun hfixed => if_pos hfixed⟩
  | cfhi | nhi | mctl | p0hi | p1hi | thi =>
    exact fun hoff => by simp [ControlReg.wfmAfter, ControlReg.pncAfter, hoff]
  | p0ctl | p1ctl | nctl => exact Nat.zero_le _

/-- The side effect of a write touches nothing that another register constrains. -/
theorem ControlReg.demand_write_other {j k : ControlReg} (hjk : j ≠ k) (data : Byte) {v : Byte} {w : Wfm} {p : Pnc}
    (h : j.Demand v w p) : j.Demand v (k.wfmAfter data w) (k.pncAfter data p) := by
  cases k with
  | cvol => cases j with | cvol => exact absurd rfl hjk | _ => exact h
  | cfhi => cases j with | cfhi => exact absurd rfl hjk | _ => exact h
  | mvol => cases j with | mvol => exact absurd rfl hjk | _ => exact h
  | mctl => cases j with | mctl => exact absurd rfl hjk | _ => exact h
  | p0ctl => cases j with | p0ctl => exact absurd rfl hjk | _ => exact h
  | p0hi => cases j with | p0hi => exact absurd rfl hjk | _ => exact h
  | p1ctl => cases j with | p1ctl => exact absurd rfl hjk | _ => exact h
  | p1hi => cases j with | p1hi => exact absurd rfl hjk | _ => exact h
  | thi => cases j with | thi => exact absurd rfl hjk | _ => exact h
  | nctl => cases j with | nctl => exact absurd rfl hjk | _ => exact h
  | nhi => cases j with | nhi => exact absurd rfl hjk | _ => exact h

/-- The side effect of a write keeps the bounds of the WFM unit: the one bias it writes is 0. -/
theorem ControlReg.wfmAfter_bounded (k : ControlReg) (data : Byte) {c : Cfg} {w : Wfm} (h : WfmBounded c w) :
    WfmBounded c (k.wfmAfter data w) := by
  cases k with
  | mctl => exact ⟨(by decide : (-64 : Int) ≤ 0 ∧ (0 : Int) ≤ 63), h.2⟩
  | _ => exact h

theorem ControlReg.pncAfter_bounded (k : ControlReg) (data : Byte) {c : Cfg} {p : Pnc} (h : PncBounded c p) :
    PncBounded c (k.pncAfter data p) := by
  cases k <;> exact h

theorem regular_controlWrite {s : State} (k : ControlReg) (data : Byte) (h : s.Regular) :
    (k.write data s).Regular := by
  rw [regular_iff_parts] at h ⊢
  obtain ⟨hwf, hcyc, hwfm, hpnc, hdemand⟩ := h
  have himpl := (implemented_of_mem_controlAddrs _ k.addr_mem).1
  refine ⟨Memory.write_wf _ _ _ himpl hwf, hcyc, k.wfmAfter_bounded data hwfm,
    k.pncAfter_bounded data hpnc, fun j => ?_⟩
  change j.Demand ((s.store k.addr data).raw.byte j.addr) (k.wfmAfter data s.wfm) (k.pncAfter data s.pnc)
  rw [State.store_byte]
  split
  · next hsame =>
    obtain rfl := ControlReg.addr_injective hsame
    exact j.demand_write data s.wfm s.pnc
  · next hother => exact ControlReg.demand_write_other (fun e => hother (congrArg _ e)) data (hdemand j)

/-! ### A WFM step keeps what its registers demand -/

/-- An envelope clock keeps the counter within the rate and leaves a fixed level alone (R172). -/
theorem wfmEgTick_fits {reg : Byte} {e : WfmEnv} (h : EnvFits reg e) : EnvFits reg (wfmEgTick reg e) := by
  obtain ⟨hcount, hfixed⟩ := h
  obtain ⟨_, heq⟩ | ⟨hramp, hlt, heq⟩ | ⟨hramp, _, hcnt, _⟩ := wfmEgTick_cases reg e
  · rw [heq]; exact ⟨hcount, hfixed⟩
  · refine ⟨?_, fun hm => absurd hm (by simp [hramp])⟩
    rw [heq]
    bv_omega
  · refine ⟨?_, fun hm => absurd hm (by simp [hramp])⟩
    rw [hcnt]
    exact Nat.zero_le _

theorem biasDown_le {fuel : Nat} {b : Int} (hfuel : b ≤ 63 + 128 * fuel) : biasDown fuel b ≤ 63 := by
  induction fuel generalizing b with
  | zero => simpa [biasDown] using hfuel
  | succ n ih =>
    unfold biasDown
    split
    · exact ih (by omega)
    · omega

theorem biasUp_range {fuel : Nat} {b : Int} (hle : b ≤ 63) (hfuel : -64 - 128 * fuel ≤ b) :
    -64 ≤ biasUp fuel b ∧ biasUp fuel b ≤ 63 := by
  induction fuel generalizing b with
  | zero => exact ⟨by simpa [biasUp] using hfuel, hle⟩
  | succ n ih =>
    unfold biasUp
    split
    · exact ih (by omega) (by omega)
    · omega

/-- The wrap ends in the bias range: the fuel of each loop suffices (R175). -/
theorem biasWrap_range (b : Int) : -64 ≤ biasWrap b ∧ biasWrap b ≤ 63 :=
  biasUp_range (biasDown_le (by omega)) (by omega)

/-- Every table entry applied leaves the bias in range, as its update ends with the wrap (R173, R174). -/
theorem biasEntries_range (m : Memory) (start n : Nat) {b : Int} (h : -64 ≤ b ∧ b ≤ 63) :
    -64 ≤ biasEntries m start n b ∧ biasEntries m start n b ≤ 63 := by
  cases n with
  | zero => exact h
  | succ j => exact biasWrap_range _

/-- The modulator of a WFM step is that of the modulator's advance. -/
theorem wfmStep_modulator (c : Cfg) (m : Memory) (u : Wfm) :
    (wfmStep c m u).1.mPhase = (wfmModAdv c m (wfmEgClk c m u)).mPhase ∧
      (wfmStep c m u).1.bias = (wfmModAdv c m (wfmEgClk c m u)).bias := by
  obtain ⟨hphase, hbias, _⟩ := wfmCarAdv_frame c m
    (modValue (wfmModAdv c m (wfmEgClk c m u)).bias (wfmModAdv c m (wfmEgClk c m u)).mEnv.lvl (cfreq m))
    (wfmModAdv c m (wfmEgClk c m u))
  exact ⟨hphase, hbias⟩

theorem wfmStep_bounded {c : Cfg} (m : Memory) {u : Wfm} (h : WfmBounded c u) : WfmBounded c (wfmStep c m u).1 := by
  obtain ⟨hclkAcc, _, _, _, _, hclkBias⟩ := wfmEgClk_spec c m u
  obtain ⟨_, _, hacc⟩ := wfmStep_envelopes c m u
  refine ⟨?_, ?_⟩
  · rw [(wfmStep_modulator c m u).2]
    cases hmen : men m
    · rw [wfmModAdv_off hmen, hclkBias]
      exact h.1
    · rw [wfmModAdv_on hmen]
      exact biasEntries_range m _ _ (hclkBias ▸ h.1)
  · rw [hacc, hclkAcc]
    exact divider_rest_lt _ c.egPeriodFx_pos

theorem wfmStep_carrierFits {c : Cfg} {m : Memory} {u : Wfm} (h : EnvFits (m.byte aCVOL) u.cEnv) :
    EnvFits (m.byte aCVOL) (wfmStep c m u).1.cEnv := by
  obtain ⟨hstep, _, _⟩ := wfmStep_envelopes c m u
  obtain ⟨_, hclk, _⟩ := wfmEgClk_spec c m u
  rw [hstep, hclk]
  exact iterate_keeps (EnvFits _) _ (fun _ => wfmEgTick_fits) _ _ h

theorem wfmStep_modulatorFits {c : Cfg} {m : Memory} {u : Wfm} (h : EnvFits (m.byte aMVOL) u.mEnv) :
    EnvFits (m.byte aMVOL) (wfmStep c m u).1.mEnv := by
  obtain ⟨_, hstep, _⟩ := wfmStep_envelopes c m u
  obtain ⟨_, _, hclk, _⟩ := wfmEgClk_spec c m u
  rw [hstep, hclk]
  exact iterate_keeps (EnvFits _) _ (fun _ => wfmEgTick_fits) _ _ h

/-- A step leaves the phase of a disabled carrier alone (R179). -/
theorem wfmStep_cPhase_off {c : Cfg} {m : Memory} {u : Wfm} (hcen : cen m = false) :
    (wfmStep c m u).1.cPhase = u.cPhase := by
  have hcar : (wfmStep c m u).1 = wfmModAdv c m (wfmEgClk c m u) := wfmCarAdv_off hcen
  obtain ⟨hmod, _⟩ := wfmModAdv_frame c m (wfmEgClk c m u)
  obtain ⟨_, _, _, hclk, _⟩ := wfmEgClk_spec c m u
  rw [hcar, hmod, hclk]

/-- A step leaves the phase and the bias of a disabled modulator alone (R173). -/
theorem wfmStep_modulator_off {c : Cfg} {m : Memory} {u : Wfm} (hmen : men m = false) :
    (wfmStep c m u).1.mPhase = u.mPhase ∧ (wfmStep c m u).1.bias = u.bias := by
  obtain ⟨hphase, hbias⟩ := wfmStep_modulator c m u
  obtain ⟨_, _, _, _, hclk⟩ := wfmEgClk_spec c m u
  rw [hphase, hbias, wfmModAdv_off hmen]
  exact hclk

/-! ### A PNC step keeps what its registers demand -/

/-- An envelope clock keeps the counter within the rate (R132). -/
theorem pncEnvTick_cnt_le {ctl : Byte} {e : PncEnv} (h : e.cnt.toNat ≤ (valField ctl).toNat) :
    (pncEnvTick ctl e).cnt.toNat ≤ (valField ctl).toNat := by
  obtain ⟨_, heq⟩ | ⟨_, hlt, heq⟩ | ⟨_, _, heq⟩ := pncEnvTick_cases ctl e
  · rw [heq]; exact h
  · rw [heq]
    bv_omega
  · rw [heq]
    exact Nat.zero_le _

theorem pncEnvTicks_cnt_le {ctl : Byte} (n : Nat) {e : PncEnv} (h : e.cnt.toNat ≤ (valField ctl).toNat) :
    (Nat.iterate (pncEnvTick ctl) n e).cnt.toNat ≤ (valField ctl).toNat :=
  iterate_keeps (fun e => e.cnt.toNat ≤ (valField ctl).toNat) _ (fun _ => pncEnvTick_cnt_le) n e h

theorem pncPulse_env (c : Cfg) (m : Memory) (ctl lo hi : Addr) (k : Nat) (p : Pulse) :
    (pncPulse c m ctl lo hi k p).1.env = p.env := by
  cases h : enabled m hi
  · rw [pncPulse_off h]
  · rw [pncPulse_on h]

theorem pncNoise_env (m : Memory) (k : Nat) (n : Noise) : (pncNoise m k n).1.env = n.env := by
  unfold pncNoise
  split <;> rfl

/-- The shift register after a shift, bit by bit (R136). -/
theorem lfsrShift_getLsbD (l : BitVec 15) (i : Nat) :
    (lfsrShift l).getLsbD i =
      if i < 14 then l.getLsbD (i + 1) else (BitVec.ofBool (l[0] ^^ l[1])).getLsbD (i - 14) := by
  have happend : (lfsrShift l).getLsbD i = _ :=
    BitVec.getLsbD_append (x := BitVec.ofBool (l[0] ^^ l[1])) (y := l.extractLsb' 1 14)
  rw [happend]
  split
  · next hi => simp [hi, Nat.add_comm]
  · rfl

/-- A shift moves every bit but bit 0 down and puts bit 0 xor bit 1 on top: only 0 shifts to 0. -/
theorem lfsrShift_ne_zero {l : BitVec 15} (h : l ≠ 0) : lfsrShift l ≠ 0 := by
  intro hzero
  apply h
  have hbit (i : Nat) : (lfsrShift l).getLsbD i = false := by simp [hzero]
  have hhigh (i : Nat) (hi : i < 14) : l.getLsbD (i + 1) = false := by
    simpa [lfsrShift_getLsbD, hi] using hbit i
  have hone : l[1] = false := hhigh 0 (by decide)
  have hlow : l[0] = false := by
    have htop := hbit 14
    rw [lfsrShift_getLsbD] at htop
    simpa [hone] using htop
  apply BitVec.eq_of_getLsbD_eq
  intro i hi
  cases i with
  | zero => exact hlow
  | succ j => simpa using hhigh j (by omega)

theorem pncNoise_lfsr_ne_zero (m : Memory) (k : Nat) {n : Noise} (h : n.lfsr ≠ 0) : (pncNoise m k n).1.lfsr ≠ 0 := by
  unfold pncNoise
  split
  · exact iterate_keeps (· ≠ 0) lfsrShift (fun _ => lfsrShift_ne_zero) _ _ h
  · exact h

/-- The parts of a PNC step that the registers constrain, each as a function of the part before it: `k` internal
clocks and `n` envelope clocks (R130, R131, R138). -/
theorem pncStep_fields (c : Cfg) (m : Memory) (u : Pnc) : ∃ k n : Nat,
    (pncStep c m u).1.p0 =
      (pncPulse c m aP0CTL aP0LO aP0HI k
        { u.p0 with env := Nat.iterate (pncEnvTick (m.byte aP0CTL)) n u.p0.env }).1 ∧
    (pncStep c m u).1.p1 =
      (pncPulse c m aP1CTL aP1LO aP1HI k
        { u.p1 with env := Nat.iterate (pncEnvTick (m.byte aP1CTL)) n u.p1.env }).1 ∧
    (pncStep c m u).1.tri = (pncTri m k u.tri).1 ∧
    (pncStep c m u).1.noise =
      (pncNoise m k { u.noise with env := Nat.iterate (pncEnvTick (m.byte aNCTL)) n u.noise.env }).1 ∧
    (pncStep c m u).1.divAcc = (divider (u.divAcc + c.cps) c.pncDiv).rest ∧
    (pncStep c m u).1.envAcc = (divider (u.envAcc + k) c.pncEnvPeriod).rest := by
  obtain ⟨henv, hp0, hp1, hnoise, htri, hdiv⟩ := pncEnvClk_spec c m (pncClk c u).2 (pncClk c u).1
  rw [(pncStep_parts c m u).1]
  refine ⟨(pncClk c u).2, (divider (u.envAcc + (pncClk c u).2) c.pncEnvPeriod).ticks, ?_, ?_, ?_, ?_, hdiv, henv⟩
  · rw [hp0]; rfl
  · rw [hp1]; rfl
  · rw [htri]; rfl
  · rw [hnoise]; rfl

theorem pncStep_bounded {c : Cfg} (m : Memory) {u : Pnc} (h : PncBounded c u) : PncBounded c (pncStep c m u).1 := by
  obtain ⟨k, n, _, _, _, hnoise, hdiv, henv⟩ := pncStep_fields c m u
  obtain ⟨_, _, hlfsr⟩ := h
  refine ⟨?_, ?_, ?_⟩
  · rw [hdiv]; exact divider_rest_lt _ c.pncDiv_pos
  · rw [henv]; exact divider_rest_lt _ c.pncEnvPeriod_pos
  · rw [hnoise]; exact pncNoise_lfsr_ne_zero m k hlfsr

/-! ### Every audio step keeps what the registers demand -/

theorem ControlReg.demand_audioStep (k : ControlReg) (c : Cfg) {m : Memory} {w : Wfm} {p : Pnc}
    (h : k.Demand (m.byte k.addr) w p) : k.Demand (m.byte k.addr) (wfmStep c m w).1 (pncStep c m p).1 := by
  obtain ⟨clocks, n, hp0, hp1, htri, hnoise, _, _⟩ := pncStep_fields c m p
  cases k with
  | cvol => exact wfmStep_carrierFits h
  | cfhi => exact fun hoff => (wfmStep_cPhase_off hoff).trans (h hoff)
  | mvol => exact wfmStep_modulatorFits h
  | mctl =>
    intro hoff
    obtain ⟨hphase, hbias⟩ := wfmStep_modulator_off (c := c) (u := w) hoff
    exact ⟨hphase.trans (h hoff).1, hbias.trans (h hoff).2⟩
  | p0ctl =>
    simp only [ControlReg.Demand, hp0, pncPulse_env]
    exact pncEnvTicks_cnt_le n h
  | p0hi =>
    intro hoff
    rw [hp0, pncPulse_off (hi := aP0HI) hoff]
    exact h hoff
  | p1ctl =>
    simp only [ControlReg.Demand, hp1, pncPulse_env]
    exact pncEnvTicks_cnt_le n h
  | p1hi =>
    intro hoff
    rw [hp1, pncPulse_off (hi := aP1HI) hoff]
    exact h hoff
  | thi =>
    intro hoff
    rw [htri, pncTri_off hoff]
    exact h hoff
  | nctl =>
    simp only [ControlReg.Demand, hnoise, pncNoise_env]
    exact pncEnvTicks_cnt_le n h
  | nhi =>
    intro hoff
    rw [hnoise, pncNoise_off hoff]
    exact h hoff

theorem regular_audioStep {s : State} (h : s.Regular) : (audioStep s).Regular := by
  rw [regular_iff_parts] at h ⊢
  obtain ⟨hwf, hcyc, hwfm, hpnc, hdemand⟩ := h
  exact ⟨hwf, hcyc, wfmStep_bounded s.raw hwfm, pncStep_bounded s.raw hpnc,
    fun k => k.demand_audioStep s.cfg (hdemand k)⟩

/-- ADVANCE keeps fewer cycles than a step takes, and then performs audio steps (R92). -/
theorem regular_advance {s : State} (count : BitVec 30) (h : s.Regular) :
    (Nat.iterate audioStep (s.stepsIn count)
      { s with cycAcc := (s.cycAcc + count.toNat) % s.cfg.cps }).Regular := by
  refine iterate_keeps State.Regular audioStep (fun _ => regular_audioStep) _ _ ?_
  rw [regular_iff_parts] at h ⊢
  obtain ⟨hwf, _, hrest⟩ := h
  exact ⟨hwf, Nat.mod_lt _ s.cfg.cps_pos, hrest⟩

/-! ### Every step keeps the invariant -/

/-- The invariant is about the block alone, not about the host's side of the port. -/
theorem inv_hostSide {s : State} (pending : List Hcw) (report : Option PortRefusal) (h : s.Inv) :
    State.Inv { s with pending := pending, report := report } := fun hlive =>
  (regular_iff_parts _).mpr ((regular_iff_parts s).mp (h hlive))

theorem CommandEffect.inv {s t : State} (heffect : CommandEffect s t) (h : s.Inv) : t.Inv := by
  cases heffect with
  | refused _ => exact inv_hostSide s.pending _ h
  | nothing _ => exact h
  | read hlive a => exact fun _ => (regular_iff_parts _).mpr ((regular_iff_parts s).mp (h hlive))
  | advance hlive count => exact fun _ => regular_advance count (h hlive)
  | reset => exact fun _ => regular_of_reset rfl rfl rfl rfl
  | plainWrite hlive a data hplain => exact fun _ => regular_plainWrite data hplain (h hlive)
  | controlWrite hlive k data => exact fun _ => regular_controlWrite k data (h hlive)

/-- Settles O59: a refusal or an idle step leaves the block alone, and each effect of a command keeps the invariant. -/
theorem invariantKeptByEveryStep : Obligations.InvariantKeptByEveryStep := by
  intro s t hinv hstep
  obtain ⟨_, rfl⟩ | ⟨w, rest, e, _, _, rfl⟩ | ⟨w, rest, i, _, _, hexec⟩ := step_cases hstep
  · exact hinv
  · exact inv_hostSide (s := s) rest _ hinv
  · exact (exec_effect hexec).inv (inv_hostSide rest none hinv)

end Sys2Proof.Proofs
end

section
/-! PROOFS. Scope: the command words (spec/30_encoding.md R70 to R76), what the write commands do to the register file
(spec/40_host_commands.md R91), and the frequency and period pseudo-instructions (R81). -/

namespace Sys2Proof.Proofs

open Sys2Proof Sys2Proof.Machine Sys2Proof.Laws

/-- A word is its high field above its low field. -/
theorem high_append_low {n k : Nat} (x : BitVec (n + k)) : x.extractLsb' k n ++ x.extractLsb' 0 k = x := by
  rw [BitVec.extractLsb'_append_extractLsb'_eq_extractLsb' (Nat.zero_add k).symm]
  exact BitVec.extractLsb'_eq_self

/-! ### The address decoder -/

/-- The register and the byte of a command that writes an implemented register; none for every other command. -/
def storeOf : Instr → Option (Addr × Byte)
  | .wrCwave i data => some (cwaveAddr i, data)
  | .wrMwave i data => some (mwaveAddr i, data)
  | .wrCvol data => some (aCVOL, data)
  | .wrCflo data => some (aCFLO, data)
  | .wrCfhi data => some (aCFHI, data)
  | .wrMvol data => some (aMVOL, data)
  | .wrMctl data => some (aMCTL, data)
  | .wrMflo data => some (aMFLO, data)
  | .wrMfhi data => some (aMFHI, data)
  | .wrMaster data => some (aMASTER, data)
  | .wrP0ctl data => some (aP0CTL, data)
  | .wrP0lo data => some (aP0LO, data)
  | .wrP0hi data => some (aP0HI, data)
  | .wrP1ctl data => some (aP1CTL, data)
  | .wrP1lo data => some (aP1LO, data)
  | .wrP1hi data => some (aP1HI, data)
  | .wrTlo data => some (aTLO, data)
  | .wrThi data => some (aTHI, data)
  | .wrNctl data => some (aNCTL, data)
  | .wrNlo data => some (aNLO, data)
  | .wrNhi data => some (aNHI, data)
  | .wrRsvd _ _ | .rd _ | .adv _ | .rst => none

/-- The implemented addresses outside the waveform tables. -/
def namedRegs : List Addr :=
  [aCVOL, aCFLO, aCFHI, aMVOL, aMCTL, aMFLO, aMFHI, aMASTER] ++ pncAddrs

/-- The implemented addresses by the lines of the address decoder (R51, R76): two tables of 64 entries, which the
high three bits select, and the named registers. -/
theorem implemented_iff (a : Addr) :
    implemented a = true ↔ a.extractLsb' 6 3 = 0#3 ∨ a.extractLsb' 6 3 = 1#3 ∨ a ∈ namedRegs := by
  simp only [implemented, namedRegs, Bool.or_eq_true, decide_eq_true_eq, List.mem_append, List.mem_cons,
    List.not_mem_nil, or_false, ← or_assoc]
  refine or_congr_left ?_
  simp only [← BitVec.toNat_inj, BitVec.extractLsb'_toNat, Nat.shiftRight_eq_div_pow, BitVec.toNat_ofNat]
  omega

/-- An address is its entry in the table its high three bits select. -/
theorem append_entry_eq {a : Addr} {k : BitVec 3} (h : a.extractLsb' 6 3 = k) : k ++ a.extractLsb' 0 6 = a := by
  rw [← h]
  exact high_append_low (n := 3) (k := 6) a

/-- The fields of a table address, as the decoder reads them. -/
theorem cwaveAddr_fields (i : BitVec 6) :
    (cwaveAddr i).extractLsb' 6 3 = 0#3 ∧ (cwaveAddr i).extractLsb' 0 6 = i :=
  ⟨BitVec.extractLsb'_append_eq_left, BitVec.extractLsb'_append_eq_right⟩

theorem mwaveAddr_fields (i : BitVec 6) :
    (mwaveAddr i).extractLsb' 6 3 = 1#3 ∧ (mwaveAddr i).extractLsb' 0 6 = i :=
  ⟨BitVec.extractLsb'_append_eq_left, BitVec.extractLsb'_append_eq_right⟩

/-- The address decoder finds every command that writes an implemented register. -/
theorem decodeWrite_of_storeOf {i : Instr} {a : Addr} {d : Byte} (h : storeOf i = some (a, d)) :
    decodeWrite a d = i := by
  cases i with
  | wrCwave k data =>
    cases h
    simp [decodeWrite, cwaveAddr_fields k]
  | wrMwave k data =>
    cases h
    simp [decodeWrite, mwaveAddr_fields k]
  | wrRsvd _ _ | rd _ | adv _ | rst => cases h
  | _ => cases h; rfl

/-- Every implemented register has a command that writes it. -/
theorem exists_storeOf {a : Addr} (d : Byte) (h : implemented a = true) : ∃ i, storeOf i = some (a, d) := by
  obtain hhigh | hhigh | hmem := (implemented_iff a).mp h
  · exact ⟨.wrCwave (a.extractLsb' 0 6) d, by rw [storeOf, cwaveAddr, append_entry_eq hhigh]⟩
  · exact ⟨.wrMwave (a.extractLsb' 0 6) d, by rw [storeOf, mwaveAddr, append_entry_eq hhigh]⟩
  · have hall : ∀ b ∈ namedRegs, storeOf (decodeWrite b d) = some (b, d) := by
      simp only [namedRegs, pncAddrs, List.cons_append, List.nil_append, List.forall_mem_cons]
      exact ⟨rfl, rfl, rfl, rfl, rfl, rfl, rfl, rfl, rfl, rfl, rfl, rfl, rfl, rfl, rfl, rfl, rfl, rfl, rfl, nofun⟩
    exact ⟨_, hall a hmem⟩

theorem storeOf_decodeWrite {a : Addr} (d : Byte) (h : implemented a = true) :
    storeOf (decodeWrite a d) = some (a, d) := by
  obtain ⟨i, hi⟩ := exists_storeOf d h
  rwa [decodeWrite_of_storeOf hi]

/-- No line but the last matches a reserved address. -/
theorem decodeWrite_reserved {a : Addr} (d : Byte) (h : implemented a = false) :
    decodeWrite a d = .wrRsvd a d := by
  have hnot : ¬ implemented a = true := by simp [h]
  simp only [implemented_iff, namedRegs, pncAddrs, List.cons_append, List.nil_append, List.mem_cons, List.not_mem_nil,
    or_false, not_or] at hnot
  simp [decodeWrite, hnot]

/-! ### The word of a command -/

theorem encode_of_storeOf {i : Instr} {a : Addr} {d : Byte} (h : storeOf i = some (a, d)) :
    encode i = writeWord a d := by
  cases i with
  | wrRsvd _ _ | rd _ | adv _ | rst => cases h
  | _ => cases h; rfl

theorem wellFormed_of_storeOf {i : Instr} {a : Addr} {d : Byte} (h : storeOf i = some (a, d)) :
    i.wellFormed = true := by
  cases i with
  | wrRsvd _ _ | rd _ | adv _ | rst => cases h
  | _ => rfl

/-- The address decoder answers the command whose word has that address and byte, and the command is well formed. -/
theorem encode_decodeWrite (a : Addr) (d : Byte) :
    encode (decodeWrite a d) = writeWord a d ∧ (decodeWrite a d).wellFormed = true := by
  cases himpl : implemented a with
  | true =>
    have hstore := storeOf_decodeWrite d himpl
    exact ⟨encode_of_storeOf hstore, wellFormed_of_storeOf hstore⟩
  | false =>
    rw [decodeWrite_reserved d himpl]
    exact ⟨rfl, by simp [Instr.wellFormed, himpl]⟩

theorem decode_readWord (a : Addr) : decode (readWord a) = .ok (.rd a) := by
  obtain ⟨hkind, hzero, haddr, hlow⟩ := readWord_format a
  simp [decode, hkind, hzero, haddr, hlow]

theorem decode_writeWord (a : Addr) (d : Byte) : decode (writeWord a d) = .ok (decodeWrite a d) := by
  obtain ⟨hkind, hzero, haddr, hlow⟩ := writeWord_format a d
  simp [decode, hkind, hzero, haddr, hlow]

theorem decode_encode_adv (count : BitVec 30) : decode (encode (.adv count)) = .ok (.adv count) := by
  obtain ⟨hkind, hcount⟩ := countWord_fields 2#2 count
  simp [decode, encode, hkind, hcount]

/-- Settles O1: a WRITE word carries the address and the byte that the address decoder takes back to its command. -/
theorem decodeEncodeRoundTrip : Obligations.DecodeEncodeRoundTrip := by
  intro i hwf
  cases hstore : storeOf i with
  | some target =>
    obtain ⟨a, d⟩ := target
    rw [encode_of_storeOf hstore, decode_writeWord, decodeWrite_of_storeOf hstore]
  | none =>
    cases i with
    | wrRsvd a d =>
      have hreserved : implemented a = false := by simpa [Instr.wellFormed] using hwf
      rw [encode, decode_writeWord, decodeWrite_reserved d hreserved]
    | rd a => exact decode_readWord a
    | adv count => exact decode_encode_adv count
    | rst => rfl
    | _ => cases hstore

/-! ### The words the decoder takes -/

/-- The four fields of the bus formats are the whole word (R71, R72). -/
theorem busWord_eq (w : Hcw) :
    w.extractLsb' 30 2 ++ (w.extractLsb' 17 13 ++ (w.extractLsb' 8 9 ++ w.extractLsb' 0 8)) = w := by
  rw [BitVec.extractLsb'_append_extractLsb'_eq_extractLsb' (by rfl),
    BitVec.extractLsb'_append_extractLsb'_eq_extractLsb' (by rfl),
    BitVec.extractLsb'_append_extractLsb'_eq_extractLsb' (by rfl)]
  exact BitVec.extractLsb'_eq_self

/-- The two fields of the ADVANCE and RESET formats are the whole word (R73, R74). -/
theorem countWord_eq (w : Hcw) : w.extractLsb' 30 2 ++ w.extractLsb' 0 30 = w :=
  high_append_low (n := 2) (k := 30) w

theorem kind_cases (k : BitVec 2) : k = 0#2 ∨ k = 1#2 ∨ k = 2#2 ∨ k = 3#2 := by
  revert k
  decide

/-- The inversion lemma of `decode`: each format's word, with its must-be-zero fields 0. -/
theorem decode_ok_cases {w : Hcw} {i : Instr} (h : decode w = .ok i) :
    (∃ a, w = readWord a ∧ i = .rd a) ∨ (∃ a d, w = writeWord a d ∧ i = decodeWrite a d) ∨
      (∃ count, w = encode (.adv count) ∧ i = .adv count) ∨ (w = encode .rst ∧ i = .rst) := by
  have hbus := busWord_eq w
  have hcount := countWord_eq w
  obtain hk | hk | hk | hk := kind_cases (w.extractLsb' 30 2)
  · obtain ⟨hzero, hlow, rfl⟩ :
        w.extractLsb' 17 13 = 0#13 ∧ w.extractLsb' 0 8 = 0#8 ∧ Instr.rd (w.extractLsb' 8 9) = i := by
      simpa [decode, hk, ite_eq_iff] using h
    rw [hk, hzero, hlow] at hbus
    exact .inl ⟨_, hbus.symm, rfl⟩
  · obtain ⟨hzero, rfl⟩ :
        w.extractLsb' 17 13 = 0#13 ∧ decodeWrite (w.extractLsb' 8 9) (w.extractLsb' 0 8) = i := by
      simpa [decode, hk, ite_eq_iff] using h
    rw [hk, hzero] at hbus
    exact .inr (.inl ⟨_, _, hbus.symm, rfl⟩)
  · obtain rfl : Instr.adv (w.extractLsb' 0 30) = i := by simpa [decode, hk] using h
    rw [hk] at hcount
    exact .inr (.inr (.inl ⟨_, hcount.symm, rfl⟩))
  · obtain ⟨hlow, rfl⟩ : w.extractLsb' 0 30 = 0#30 ∧ Instr.rst = i := by
      simpa [decode, hk, ite_eq_iff] using h
    rw [hk, hlow] at hcount
    exact .inr (.inr (.inr ⟨hcount.symm, rfl⟩))

/-- Settles O2: a word that decodes is made of the fields it was decoded from. -/
theorem encodeDecodeRoundTrip : Obligations.EncodeDecodeRoundTrip := by
  intro w i h
  obtain ⟨a, rfl, rfl⟩ | ⟨a, d, rfl, rfl⟩ | ⟨count, rfl, rfl⟩ | ⟨rfl, rfl⟩ := decode_ok_cases h
  · exact ⟨rfl, rfl⟩
  · exact encode_decodeWrite a d
  · exact ⟨rfl, rfl⟩
  · exact ⟨rfl, rfl⟩

/-- Settles O3: for each kind, the fields the decoder checks. -/
theorem decodeRefusesExactlyIllegalWords : Obligations.DecodeRefusesExactlyIllegalWords := by
  intro w
  obtain hk | hk | hk | hk := kind_cases (w.extractLsb' 30 2)
  · by_cases hzero : w.extractLsb' 17 13 = 0#13
    · by_cases hlow : w.extractLsb' 0 8 = 0#8
      · simp [decode, hk, hzero, hlow]
      · simp [decode, hk, hzero, hlow]
    · simp [decode, hk, hzero]
  · by_cases hzero : w.extractLsb' 17 13 = 0#13
    · simp [decode, hk, hzero]
    · simp [decode, hk, hzero]
  · simp [decode, hk]
  · by_cases hlow : w.extractLsb' 0 30 = 0#30
    · simp [decode, hk, hlow]
    · simp [decode, hk, hlow]

/-- Settles O4: each word of the table is evaluated. -/
theorem specWordsDecode : Obligations.SpecWordsDecode := by
  unfold Obligations.SpecWordsDecode
  decide

/-! ### Writing a register -/

theorem exec_of_plainWrite {i : Instr} {a : Addr} {d : Byte} {s : State} (hlive : s.live = true)
    (hexec : exec i s = whenLive s fun s => s.store a d) :
    ∃ w p, exec i s = .next { s.store a d with wfm := w, pnc := p } :=
  ⟨s.wfm, s.pnc, hexec.trans (whenLive_live hlive _)⟩

theorem exec_of_controlWrite {i : Instr} {d : Byte} {s : State} (hlive : s.live = true) (k : ControlReg)
    (hexec : exec i s = whenLive s (k.write d)) :
    ∃ w p, exec i s = .next { s.store k.addr d with wfm := w, pnc := p } :=
  ⟨k.wfmAfter d s.wfm, k.pncAfter d s.pnc, hexec.trans (whenLive_live hlive _)⟩

/-- A command that writes an implemented register stores the byte there, and beyond `raw` changes at most the units'
internal state (R91). -/
theorem exec_of_storeOf {i : Instr} {a : Addr} {d : Byte} (h : storeOf i = some (a, d)) {s : State}
    (hlive : s.live = true) : ∃ w p, exec i s = .next { s.store a d with wfm := w, pnc := p } := by
  cases i with
  | wrRsvd _ _ | rd _ | adv _ | rst => cases h
  | wrCwave _ _ | wrMwave _ _ | wrCflo _ | wrMflo _ | wrMfhi _ | wrMaster _ | wrP0lo _ | wrP1lo _ | wrTlo _
  | wrNlo _ =>
    cases h
    exact exec_of_plainWrite hlive rfl
  | wrCvol _ => cases h; exact exec_of_controlWrite hlive .cvol rfl
  | wrMvol _ => cases h; exact exec_of_controlWrite hlive .mvol rfl
  | wrP0ctl _ => cases h; exact exec_of_controlWrite hlive .p0ctl rfl
  | wrP1ctl _ => cases h; exact exec_of_controlWrite hlive .p1ctl rfl
  | wrNctl _ => cases h; exact exec_of_controlWrite hlive .nctl rfl
  | wrCfhi _ => cases h; exact exec_of_controlWrite hlive .cfhi (execWrCfhi_eq d s)
  | wrMctl _ => cases h; exact exec_of_controlWrite hlive .mctl (execWrMctl_eq d s)
  | wrP0hi _ => cases h; exact exec_of_controlWrite hlive .p0hi (execWrP0hi_eq d s)
  | wrP1hi _ => cases h; exact exec_of_controlWrite hlive .p1hi (execWrP1hi_eq d s)
  | wrThi _ => cases h; exact exec_of_controlWrite hlive .thi (execWrThi_eq d s)
  | wrNhi _ => cases h; exact exec_of_controlWrite hlive .nhi (execWrNhi_eq d s)

theorem writeWord_toNat (a : Addr) (d : Byte) :
    (writeWord a d).toNat = 1 <<< 30 ||| (0 <<< 17 ||| (a.toNat <<< 8 ||| d.toNat)) :=
  (BitVec.toNat_append _ _).trans (congrArg (1 <<< 30 ||| ·)
    ((BitVec.toNat_append _ _).trans (congrArg (0 <<< 17 ||| ·) (BitVec.toNat_append _ _))))

/-- R72's form of the WRITE word: the kind bit, the address shifted, the byte. -/
theorem or_shift_eq_writeWord (a : Addr) (d : Byte) :
    0x40000000#32 ||| (a.setWidth 32 <<< 8) ||| d.setWidth 32 = writeWord a d := by
  have haddr : a.toNat < 2 ^ 32 := by omega
  have hshift : a.toNat <<< 8 < 2 ^ 32 := by rw [Nat.shiftLeft_eq]; omega
  have hbyte : d.toNat < 2 ^ 32 := by omega
  apply BitVec.eq_of_toNat_eq
  simp only [writeWord_toNat, BitVec.toNat_or, BitVec.toNat_shiftLeft, BitVec.toNat_setWidth, Nat.mod_eq_of_lt haddr,
    Nat.mod_eq_of_lt hshift, Nat.mod_eq_of_lt hbyte, Nat.zero_shiftLeft, Nat.zero_or, Nat.or_assoc]
  rfl

theorem store_byte_same (s : State) (a : Addr) (v : Byte) : (s.store a v).raw.byte a = v :=
  (s.store_byte a a v).trans (if_pos rfl)

/-- READ of an implemented address appends its cell (R90). -/
theorem exec_rd_implemented {a : Addr} (h : implemented a = true) {s : State} (hlive : s.live = true) :
    exec (.rd a) s = .next (s.emitRead (s.raw.byte a)) := by
  have hexec : exec (.rd a) s = whenLive s fun s => s.emitRead (readByte s.raw a) := rfl
  rw [hexec, whenLive_live hlive, readByte, if_pos h]

/-- Settles O12: the word decodes to the command that writes the register, and the cell written is the cell read. -/
theorem writeThenReadReturnsByte : Obligations.WriteThenReadReturnsByte := by
  intro s a d hlive himpl
  obtain ⟨w, p, hexec⟩ := exec_of_storeOf (storeOf_decodeWrite d himpl) hlive
  refine ⟨decodeWrite a d, _, ?_, hexec, s.store_storedByte a d, ⟨rfl, rfl, rfl, rfl, rfl, rfl, rfl⟩, ?_⟩
  · rw [or_shift_eq_writeWord, decode_writeWord]
  · have hread := exec_rd_implemented himpl (s := { s.store a d with wfm := w, pnc := p }) hlive
    rw [store_byte_same] at hread
    exact hread

/-! ### The frequency and period pseudo-instructions -/

/-- Two register writes in order leave both bytes in their cells. -/
theorem exec_two_stores {i j : Instr} {lo hi : Addr} {x y : Byte} (hlo : storeOf i = some (lo, x))
    (hhi : storeOf j = some (hi, y)) (hne : lo ≠ hi) {s : State} (hlive : s.live = true) :
    ∃ t u, exec i s = .next t ∧ exec j t = .next u ∧ u.raw.byte lo = x ∧ u.raw.byte hi = y := by
  obtain ⟨w, p, hexec⟩ := exec_of_storeOf hlo hlive
  obtain ⟨w', p', hexec'⟩ := exec_of_storeOf hhi (s := { s.store lo x with wfm := w, pnc := p }) hlive
  refine ⟨_, _, hexec, hexec', ?_, ?_⟩
  · change (State.store _ hi y).raw.byte lo = x
    rw [State.store_byte, if_neg hne]
    exact store_byte_same s lo x
  · exact store_byte_same _ hi y

/-- A flag above zeros above a field: the field is the low bits (R81). -/
theorem flagged_low {z n : Nat} (en : Bool) (x : BitVec n) :
    (BitVec.ofBool en ++ (0#z ++ x)).extractLsb' 0 n = x := by
  rw [BitVec.extractLsb'_append_eq_of_add_le (by omega)]
  exact BitVec.extractLsb'_append_eq_right

theorem enableBit_flagged (en : Bool) (x : BitVec 7) : enableBit (BitVec.ofBool en ++ x) = en :=
  (BitVec.getElem_append _).trans (by simp)

/-- The low byte and then the high byte of a frequency set it and the enable bit (R23). -/
theorem exec_frequency {q : Pseudo} {i j : Instr} {lo hi : Addr} {f : BitVec 12} {en : Bool} {s : State}
    (hexpand : q.expand s.cfg = some [i, j]) (hlo : storeOf i = some (lo, f.extractLsb' 0 8))
    (hhi : storeOf j = some (hi, freqHigh f en)) (hne : lo ≠ hi) (hlive : s.live = true) :
    ∃ i j t u, q.expand s.cfg = some [i, j] ∧ exec i s = .next t ∧ exec j t = .next u ∧
      (u.raw.byte hi).extractLsb' 0 4 ++ u.raw.byte lo = f ∧ enableBit (u.raw.byte hi) = en := by
  obtain ⟨t, u, ht, hu, hlow, hhigh⟩ := exec_two_stores hlo hhi hne hlive
  have hfield : (freqHigh f en).extractLsb' 0 4 = f.extractLsb' 8 4 := flagged_low en _
  refine ⟨i, j, t, u, hexpand, ht, hu, ?_, ?_⟩
  · rw [hlow, hhigh, hfield]
    exact high_append_low (n := 4) (k := 8) f
  · rw [hhigh]
    exact enableBit_flagged en _

/-- The low byte and then the high byte of a period set it and the enable bit (R35). -/
theorem exec_period {q : Pseudo} {i j : Instr} {lo hi : Addr} {p : BitVec 11} {en : Bool} {s : State}
    (hexpand : q.expand s.cfg = some [i, j]) (hlo : storeOf i = some (lo, p.extractLsb' 0 8))
    (hhi : storeOf j = some (hi, periodHigh p en)) (hne : lo ≠ hi) (hlive : s.live = true) :
    ∃ i j t u, q.expand s.cfg = some [i, j] ∧ exec i s = .next t ∧ exec j t = .next u ∧
      period u.raw lo hi = p ∧ enabled u.raw hi = en := by
  obtain ⟨t, u, ht, hu, hlow, hhigh⟩ := exec_two_stores hlo hhi hne hlive
  have hfield : (periodHigh p en).extractLsb' 0 3 = p.extractLsb' 8 3 := flagged_low en _
  refine ⟨i, j, t, u, hexpand, ht, hu, ?_, ?_⟩
  · rw [period, hlow, hhigh, hfield]
    exact high_append_low (n := 3) (k := 8) p
  · rw [enabled, hhigh]
    exact enableBit_flagged en _

/-- Settles O60: each expansion is the low byte's write and then the high byte's. -/
theorem pseudoInstructionsSetFrequencies : Obligations.PseudoInstructionsSetFrequencies := by
  intro s f p en hlive
  refine ⟨?carrier, ?modulator, ?pulse0, ?pulse1, ?triangle, ?noise⟩
  case carrier => exact exec_frequency (lo := aCFLO) (hi := aCFHI) rfl rfl rfl (by decide) hlive
  case modulator =>
    obtain ⟨i, j, t, u, hexpand, ht, hu, hfreq, _⟩ :=
      exec_frequency (q := .mfreq f) (lo := aMFLO) (hi := aMFHI) (en := false) rfl rfl rfl (by decide) hlive
    exact ⟨i, j, t, u, hexpand, ht, hu, hfreq⟩
  case pulse0 => exact exec_period rfl rfl rfl (by decide) hlive
  case pulse1 => exact exec_period rfl rfl rfl (by decide) hlive
  case triangle => exact exec_period rfl rfl rfl (by decide) hlive
  case noise => exact exec_period rfl rfl rfl (by decide) hlive

end Sys2Proof.Proofs
end

section
/-! PROOFS. Scope: the host commands that write no register (spec/40_host_commands.md R90, R92 to R96): READ, ADVANCE
with its audio steps, RESET, the write to a reserved address, and the quiescent state. -/

namespace Sys2Proof.Proofs

open Sys2Proof Sys2Proof.Machine

/-! ### ADVANCE as audio steps -/

/-- An audio step reads and writes no `cycAcc`, so that element can be set before or after any number of them. -/
theorem audioSteps_setCycAcc (n k : Nat) (s : State) :
    Nat.iterate audioStep n { s with cycAcc := k } = { Nat.iterate audioStep n s with cycAcc := k } :=
  (iterate_follows (fun s : State => { s with cycAcc := k }) audioStep audioStep (fun _ => rfl) n s).symm

/-- ADVANCE, while live: whole audio steps from `s` itself, and then the remainder kept (R92). -/
theorem exec_adv_live {s : State} (hlive : s.live = true) (count : BitVec 30) :
    exec (.adv count) s =
      .next { Nat.iterate audioStep (s.stepsIn count) s with
        cycAcc := (s.cycAcc + count.toNat) % s.cfg.cps } := by
  have hexec : exec (.adv count) s = execAdv count s := rfl
  rw [hexec, execAdv_live hlive, audioSteps_setCycAcc]

/-- The samples a unit emits in `n` steps from state `u`, oldest first. -/
def unitSamples {α : Type} (unitStep : α → α × Sample) : Nat → α → List Sample
  | 0, _ => []
  | n + 1, u => (unitStep u).2 :: unitSamples unitStep n (unitStep u).1

theorem unitSamples_length {α : Type} (unitStep : α → α × Sample) (n : Nat) (u : α) :
    (unitSamples unitStep n u).length = n := by
  induction n generalizing u with
  | zero => rfl
  | succ n ih => exact congrArg (· + 1) (ih _)

/-- Any number of audio steps append pairs whose halves are the samples of the two units, each run on its own state
(R94). -/
theorem audioSteps_samples (n : Nat) (s : State) :
    ∃ new, (Nat.iterate audioStep n s).samples = s.samples ++ new ∧
      new.map SamplePair.pnc = unitSamples (pncStep s.cfg s.raw) n s.pnc ∧
      new.map SamplePair.wfm = unitSamples (wfmStep s.cfg s.raw) n s.wfm := by
  induction n generalizing s with
  | zero => exact ⟨[], (List.append_nil _).symm, rfl, rfl⟩
  | succ n ih =>
    obtain ⟨new, hsamples, hpnc, hwfm⟩ := ih (audioStep s)
    refine ⟨⟨(pncStep s.cfg s.raw s.pnc).2, (wfmStep s.cfg s.raw s.wfm).2⟩ :: new, ?_, ?_, ?_⟩
    · rw [Function.iterate_succ_apply, hsamples, audioStep_samples, List.append_assoc, List.singleton_append]
    · exact congrArg _ hpnc
    · exact congrArg _ hwfm

/-- Settles O24: an audio step is the two unit steps by definition, and each of ADVANCE's steps appends one pair. -/
theorem advanceRunsWholeSteps : Obligations.AdvanceRunsWholeSteps := by
  refine ⟨fun _ => rfl, fun s count hlive => ?_⟩
  obtain ⟨new, hsamples, hpnc, _⟩ := audioSteps_samples (s.stepsIn count) s
  have hlength : new.length = s.stepsIn count := by
    rw [← List.length_map SamplePair.pnc, hpnc, unitSamples_length]
  obtain ⟨hcfg, hlive', _, hraw, hreads, hpending, hreport⟩ := audioSteps_frame (s.stepsIn count) s
  exact ⟨_, new, exec_adv_live hlive count, rfl, hsamples, hlength, rfl, hraw, hreads, hcfg, hlive', hpending,
    hreport⟩

/-- Settles O25: below `CPS` there is no whole audio step in the cycles kept, and they are their own remainder. -/
theorem advanceZeroChangesNothing : Obligations.AdvanceZeroChangesNothing := by
  intro s hlive hcyc
  have hsteps : s.stepsIn 0 = 0 := Nat.div_eq_of_lt hcyc
  have hrest : (s.cycAcc + (0 : BitVec 30).toNat) % s.cfg.cps = s.cycAcc := Nat.mod_eq_of_lt hcyc
  rw [exec_adv_live hlive, hsteps, hrest]
  rfl

/-- The state an ADVANCE leads to, and what a second ADVANCE reads of it. -/
theorem adv_inversion {s t : State} {count : BitVec 30} (hlive : s.live = true)
    (hadv : exec (.adv count) s = .next t) :
    t = { Nat.iterate audioStep (s.stepsIn count) s with cycAcc := (s.cycAcc + count.toNat) % s.cfg.cps } ∧
      t.cycAcc = (s.cycAcc + count.toNat) % s.cfg.cps ∧ t.cfg = s.cfg ∧ t.live = true := by
  obtain rfl := Host.Outcome.next.inj ((exec_adv_live hlive count).symm.trans hadv)
  obtain ⟨hcfg, hlive', _⟩ := audioSteps_frame (s.stepsIn count) s
  exact ⟨rfl, rfl, hcfg, hlive'.trans hlive⟩

/-- Settles O26: the divider that counts audio steps may be fed in two parts (`divider_add`). -/
theorem advanceSplitsFreely : Obligations.AdvanceSplitsFreely := by
  intro s t a b hlive hsum hadv
  have hcount : (a + b).toNat = a.toNat + b.toNat := BitVec.toNat_add_of_lt hsum
  obtain ⟨ht, hcyc, hcfg, hlive'⟩ := adv_inversion hlive hadv
  obtain ⟨hdivRest, hdivTicks⟩ := divider_add (s.cycAcc + a.toNat) b.toNat s.cfg.cps_pos
  have hrest : (t.cycAcc + b.toNat) % t.cfg.cps = (s.cycAcc + (a + b).toNat) % s.cfg.cps := by
    rw [hcyc, hcfg, hcount, ← Nat.add_assoc]
    exact hdivRest
  have hsteps : t.stepsIn b + s.stepsIn a = s.stepsIn (a + b) := by
    rw [Nat.add_comm, State.stepsIn, State.stepsIn, State.stepsIn, hcyc, hcfg, hcount, ← Nat.add_assoc]
    exact hdivTicks
  rw [exec_adv_live hlive', exec_adv_live hlive, hrest, ← hsteps, Function.iterate_add_apply]
  generalize t.stepsIn b = n
  rw [ht, audioSteps_setCycAcc]

/-- After an ADVANCE each unit, and its half of the pairs appended, is what its own steps make of its own state. -/
theorem adv_units {s t : State} {count : BitVec 30} (hlive : s.live = true) (hadv : exec (.adv count) s = .next t) :
    (t.wfm = Nat.iterate (fun u => (wfmStep s.cfg s.raw u).1) (s.stepsIn count) s.wfm ∧
      (t.samples.drop s.samples.length).map SamplePair.wfm =
        unitSamples (wfmStep s.cfg s.raw) (s.stepsIn count) s.wfm) ∧
    (t.pnc = Nat.iterate (fun u => (pncStep s.cfg s.raw u).1) (s.stepsIn count) s.pnc ∧
      (t.samples.drop s.samples.length).map SamplePair.pnc =
        unitSamples (pncStep s.cfg s.raw) (s.stepsIn count) s.pnc) := by
  obtain ⟨rfl, _⟩ := adv_inversion hlive hadv
  obtain ⟨hwfm, hpnc⟩ := audioSteps_units (s.stepsIn count) s
  obtain ⟨new, hsamples, hpncSamples, hwfmSamples⟩ := audioSteps_samples (s.stepsIn count) s
  have hnew : (Nat.iterate audioStep (s.stepsIn count) s).samples.drop s.samples.length = new := by
    rw [hsamples, List.drop_left]
  refine ⟨⟨hwfm, ?_⟩, hpnc, ?_⟩
  · rw [hnew, hwfmSamples]
  · rw [hnew, hpncSamples]

/-- Settles O27: each side of `adv_units` names one unit's state only. -/
theorem unitsShareNoState : Obligations.UnitsShareNoState := by
  intro s s' t t' count hlive hlive' hcfg hraw hcyc hadv hadv'
  obtain ⟨⟨hwfm, hwfmSamples⟩, hpnc, hpncSamples⟩ := adv_units hlive hadv
  obtain ⟨⟨hwfm', hwfmSamples'⟩, hpnc', hpncSamples'⟩ := adv_units hlive' hadv'
  have hsteps : s'.stepsIn count = s.stepsIn count := by rw [State.stepsIn, hcyc, hcfg, State.stepsIn]
  refine ⟨fun hsame => ⟨?_, ?_⟩, fun hsame => ⟨?_, ?_⟩⟩
  · rw [hwfm', hwfm, hcfg, hraw, hsteps, hsame]
  · rw [hwfmSamples', hwfmSamples, hcfg, hraw, hsteps, hsame]
  · rw [hpnc', hpnc, hcfg, hraw, hsteps, hsame]
  · rw [hpncSamples', hpncSamples, hcfg, hraw, hsteps, hsame]

/-! ### RESET -/

/-- An entry of either table, by its place in the two tables one after the other. -/
theorem read_resetImage_table (c : Cfg) {a : Nat} (h : a < (c.resetCwave.toList ++ c.resetMwave.toList).length) :
    Memory.read (Memory.resetImage c) a = (c.resetCwave.toList ++ c.resetMwave.toList)[a] := by
  rw [Memory.resetImage, ← Memory.read_image 0 _ a h, Nat.zero_add]

theorem read_resetImage_cwave (c : Cfg) (i : Fin 64) :
    Memory.read (Memory.resetImage c) i.val = c.resetCwave[i.val] := by
  rw [read_resetImage_table c (by simp; omega), List.getElem_append_left (by simp), Vector.getElem_toList]

theorem read_resetImage_mwave (c : Cfg) (i : Fin 64) :
    Memory.read (Memory.resetImage c) (64 + i.val) = c.resetMwave[i.val] := by
  rw [read_resetImage_table c (by simp; omega), List.getElem_append_right (by simp), Vector.getElem_toList]
  simp

/-- Settles O28: the register file is the reset image, read region by region; every other element is set or kept by
`execRst` as stated. -/
theorem resetGivesResetValues : Obligations.ResetGivesResetValues := by
  intro s
  exact ⟨_, rfl, rfl, rfl, read_resetImage_cwave s.cfg, read_resetImage_mwave s.cfg,
    fun _ => Memory.read_resetImage_high s.cfg, Memory.resetImage_wf s.cfg, rfl, rfl, rfl, rfl, rfl, rfl, rfl⟩

/-! ### Quiescence -/

/-- Settles O6: without a next command, `step` answers the state it was given. -/
theorem quiescentWithoutCommand : Obligations.QuiescentWithoutCommand := by
  intro s hpending
  rw [step, State.nextCommand_nil hpending]

/-! ### READ and the write to a reserved address -/

theorem exec_rd_live {s : State} (hlive : s.live = true) (a : Addr) :
    exec (.rd a) s = .next (s.emitRead (readByte s.raw a)) :=
  whenLive_live hlive fun s => s.emitRead (readByte s.raw a)

/-- The implemented addresses as numbers (R21, R51). -/
theorem implemented_iff_toNat (a : Addr) :
    implemented a = true ↔ a.toNat ≤ 0x87 ∨
      a.toNat ∈ [0x100, 0x101, 0x102, 0x104, 0x105, 0x106, 0x109, 0x10A, 0x10C, 0x10D, 0x10E] := by
  have hpnc : pncAddrs.map BitVec.toNat =
      [0x100, 0x101, 0x102, 0x104, 0x105, 0x106, 0x109, 0x10A, 0x10C, 0x10D, 0x10E] := rfl
  rw [implemented, Bool.or_eq_true, decide_eq_true_eq, decide_eq_true_eq, ← hpnc,
    List.mem_map_of_injective fun _ _ => BitVec.eq_of_toNat_eq]

/-- Settles O10: `readByte` tells the implemented addresses apart as the statement's list does. -/
theorem readAppendsRegisterByte : Obligations.ReadAppendsRegisterByte := by
  intro s a hlive
  simp only [exec_rd_live hlive, readByte, implemented_iff_toNat]
  rfl

/-- Settles O11: the write answers the state it was given, and a reserved address has no cell to read. -/
theorem reservedWriteChangesNothing : Obligations.ReservedWriteChangesNothing := by
  refine fun s a _ hlive => ⟨whenLive_live hlive id, fun hreserved => ?_⟩
  have hbyte : readByte s.raw a = 0x00#8 := by rw [readByte, hreserved, if_neg Bool.false_ne_true]
  rw [exec_rd_live hlive, hbyte]
  rfl

end Sys2Proof.Proofs
end

section
/-! PROOFS. Scope: the logarithmic volume unit (spec/41_log_volume_unit.md R100 to R105): both tables against their
integer definitions, the decoder by quotient and remainder, and the round trip derived from these. -/

namespace Sys2Proof.Proofs

open Sys2Proof Sys2Proof.Machine

/-! ### The tables -/

/-- `t` is the largest natural number with `t^4096 <= 2^(122880 - i)`, as R100 asks of the entry of index `i`. -/
def LogEntryExact (t i : Nat) : Prop :=
  t ^ 4096 ≤ 2 ^ (122880 - i) ∧ 2 ^ (122880 - i) < (t + 1) ^ 4096

theorem length_log2linPiece : ∀ p < 64, (log2linPieces.getD p []).length = 64 := by decide

/-- The constants themselves: one pass over each listed piece, which is what keeps the kernel's evaluation short. -/
theorem log2linPiece_exact :
    ∀ p < 64, ∀ e ∈ (log2linPieces.getD p []).zipIdx (64 * p), LogEntryExact e.1 e.2 := by
  unfold LogEntryExact
  decide +kernel

/-- `LOG2LIN[i]` stands in piece `i / 64`, paired with its index. -/
theorem log2lin_mem_zipIdx (i : BitVec 12) :
    (log2lin i, i.toNat) ∈ (log2linPieces.getD (i.toNat / 64) []).zipIdx (64 * (i.toNat / 64)) := by
  have hpiece : i.toNat % 64 < (log2linPieces.getD (i.toNat / 64) []).length := by
    rw [length_log2linPiece _ (by omega)]
    omega
  rw [List.mk_mem_zipIdx_iff_le_and_getElem?_sub]
  refine ⟨by omega, ?_⟩
  rw [show i.toNat - 64 * (i.toNat / 64) = i.toNat % 64 by omega, List.getElem?_eq_getElem hpiece,
    log2lin, List.getD_eq_getElem _ _ hpiece]

theorem log2lin_exact (i : BitVec 12) : LogEntryExact (log2lin i) i.toNat :=
  log2linPiece_exact (i.toNat / 64) (by omega) (log2lin i, i.toNat) (log2lin_mem_zipIdx i)

/-- Settles O30: every index of the table falls into one of the pieces, whose entries are exact. -/
theorem logTableIsExact : Obligations.LogTableIsExact :=
  log2lin_exact

/-- `l` is the largest natural number with `2^l x x^4096 <= 2^28672`, as R101 asks of the entry of `x`. -/
def LinearEntryExact (l x : Nat) : Prop :=
  2 ^ l * x ^ 4096 ≤ 2 ^ 28672 ∧ 2 ^ 28672 < 2 ^ (l + 1) * x ^ 4096

theorem linearToLog_exact : ∀ x : BitVec 7, x ≠ 0 → LinearEntryExact (linearToLog x) x.toNat := by
  unfold LinearEntryExact
  decide +kernel

/-- Settles O31: the entry of 0 stands alone, and the other 127 are exact. -/
theorem linearTableIsExact : Obligations.LinearTableIsExact :=
  ⟨rfl, linearToLog_exact⟩

/-! ### The decoder -/

theorem logToLinear_of_le {l : Nat} (h : 122880 ≤ l) (sft : Int) : logToLinear l sft = 0 :=
  if_pos h

/-- The table index is the fraction of an octave, and the right shift divides by a power of two. -/
theorem logToLinear_of_lt {l : Nat} (h : l < 122880) (sft : Int) :
    logToLinear l sft =
      log2lin (BitVec.ofNat 12 (l % 4096)) / 2 ^ (((l / 4096 : Nat) : Int) + sft + 23).toNat := by
  have hindex : BitVec.ofNat 12 l = BitVec.ofNat 12 (l % 4096) :=
    BitVec.eq_of_toNat_eq (Nat.mod_mod l 4096).symm
  rw [logToLinear, if_neg (show ¬ l ≥ logZero from Nat.not_le.mpr h), Nat.shiftRight_eq_div_pow,
    Nat.shiftRight_eq_div_pow, hindex]

/-- Settles O33: from `sft = -23` on the exponent is its own natural part. -/
theorem logToLinearDividesTableEntry : Obligations.LogToLinearDividesTableEntry := by
  intro l sft hsft
  exact ⟨fun h => logToLinear_of_le h sft, fun h => ⟨_, Int.toNat_of_nonneg (by omega), logToLinear_of_lt h sft⟩⟩

/-! ### The round trip -/

/-- By Bernoulli's inequality `(1 + 1/x)^n` is at least `1 + n/x`, so at least 2. -/
theorem two_mul_pow_le_succ_pow {x n : Nat} (hn : 0 < n) (h : x ≤ n) : 2 * x ^ n ≤ (x + 1) ^ n :=
  calc 2 * x ^ n = x ^ n + x * x ^ (n - 1) := by rw [Nat.two_mul, mul_pow_sub_one hn.ne']
    _ ≤ x ^ n + n * x ^ (n - 1) * 1 := by rw [Nat.mul_one]; gcongr
    _ ≤ (x + 1) ^ n := pow_add_mul_le_add_pow (Nat.zero_le x) (Nat.zero_le _) n

/-- Whole octaves (`k`) are factors of the base of an `n`th power, and the fraction of one (`r`) is a factor outside
it. -/
theorem octaves_pow {x k r l b n : Nat} (h : k * n + r = l + b) :
    (x * 2 ^ k) ^ n * 2 ^ r = 2 ^ l * x ^ n * 2 ^ b := by
  rw [Nat.mul_pow, ← Nat.pow_mul, Nat.mul_assoc, ← Nat.pow_add, h, Nat.pow_add, Nat.mul_left_comm, Nat.mul_assoc]

/-- The exact entry of a fraction of an octave, shifted by the octaves, is the number whose logarithm was taken
(R105): both are bounded by their definitions within one unit of the same power of two. -/
theorem shifted_logEntry_eq {x l t : Nat} (hx : x ≤ 4096) (hlin : LinearEntryExact l x)
    (hlog : LogEntryExact t (l % 4096)) : t / 2 ^ (l / 4096 + 23) = x := by
  obtain ⟨hlinLe, hlinLt⟩ := hlin
  obtain ⟨hlogLe, hlogLt⟩ := hlog
  have hexponent : (l / 4096 + 23) * 4096 + l % 4096 = l + 94208 := by omega
  have hscale : 2 ^ (122880 - l % 4096) * 2 ^ (l % 4096) = 2 ^ 28672 * 2 ^ 94208 := by
    have hsum : 122880 - l % 4096 + l % 4096 = 28672 + 94208 := by omega
    rw [← Nat.pow_add, ← Nat.pow_add, hsum]
  have hdouble : 2 ^ (l + 1) * x ^ 4096 = 2 ^ l * (2 * x ^ 4096) := by
    rw [Nat.pow_succ, Nat.mul_assoc]
  have hlower : x * 2 ^ (l / 4096 + 23) < t + 1 := by
    refine lt_of_pow_lt_pow_left' 4096 (Nat.lt_of_mul_lt_mul_right (a := 2 ^ (l % 4096)) ?_)
    calc (x * 2 ^ (l / 4096 + 23)) ^ 4096 * 2 ^ (l % 4096)
        = 2 ^ l * x ^ 4096 * 2 ^ 94208 := octaves_pow hexponent
      _ ≤ 2 ^ 28672 * 2 ^ 94208 := Nat.mul_le_mul_right _ hlinLe
      _ = 2 ^ (122880 - l % 4096) * 2 ^ (l % 4096) := hscale.symm
      _ < (t + 1) ^ 4096 * 2 ^ (l % 4096) := Nat.mul_lt_mul_of_pos_right hlogLt (Nat.two_pow_pos _)
  have hupper : t < (x + 1) * 2 ^ (l / 4096 + 23) := by
    refine lt_of_pow_lt_pow_left' 4096 (Nat.lt_of_mul_lt_mul_right (a := 2 ^ (l % 4096)) ?_)
    calc t ^ 4096 * 2 ^ (l % 4096)
        ≤ 2 ^ (122880 - l % 4096) * 2 ^ (l % 4096) := Nat.mul_le_mul_right _ hlogLe
      _ = 2 ^ 28672 * 2 ^ 94208 := hscale
      _ < 2 ^ (l + 1) * x ^ 4096 * 2 ^ 94208 := Nat.mul_lt_mul_of_pos_right hlinLt (pow_pos Nat.two_pos _)
      _ = 2 ^ l * (2 * x ^ 4096) * 2 ^ 94208 := congrArg (· * 2 ^ 94208) hdouble
      _ ≤ 2 ^ l * (x + 1) ^ 4096 * 2 ^ 94208 :=
          Nat.mul_le_mul_right _ (Nat.mul_le_mul_left _ (two_mul_pow_le_succ_pow (by omega) hx))
      _ = ((x + 1) * 2 ^ (l / 4096 + 23)) ^ 4096 * 2 ^ (l % 4096) := (octaves_pow hexponent).symm
  exact Nat.div_eq_of_lt_le (Nat.le_of_lt_succ hlower) hupper

theorem LinearEntryExact.le {l x : Nat} (hx : 0 < x) (h : LinearEntryExact l x) : l ≤ 28672 :=
  (Nat.pow_le_pow_iff_right Nat.one_lt_two).mp <|
    calc 2 ^ l ≤ 2 ^ l * x ^ 4096 := Nat.le_mul_of_pos_right _ (Nat.pow_pos hx)
      _ ≤ 2 ^ 28672 := h.1

/-- Settles O32 from the definitions of the two tables, as R105 derives it, and not by evaluation. -/
theorem logRoundTripIsExact : Obligations.LogRoundTripIsExact := by
  intro x
  rcases eq_or_ne x 0 with rfl | hx
  · exact logToLinear_of_le (Nat.le_refl _) 0
  · have hpos : 0 < x.toNat := Nat.pos_of_ne_zero fun h => hx (BitVec.eq_of_toNat_eq h)
    have hlin := linearToLog_exact x hx
    generalize linearToLog x = l at hlin ⊢
    have hl : l ≤ 28672 := LinearEntryExact.le hpos hlin
    have hindex : (BitVec.ofNat 12 (l % 4096)).toNat = l % 4096 := Nat.mod_mod l 4096
    have hlog := log2lin_exact (BitVec.ofNat 12 (l % 4096))
    rw [hindex] at hlog
    have hshift : (((l / 4096 : Nat) : Int) + 0 + 23).toNat = l / 4096 + 23 := by omega
    rw [logToLinear_of_lt (by omega), hshift]
    exact shifted_logEntry_eq (by omega) hlin hlog

end Sys2Proof.Proofs
end

section
/-! PROOFS. Scope: WRITE to the PNC registers (spec/42_pnc_registers.md R115 to R125): the views of the stored byte, and
each register's side effects. -/

namespace Sys2Proof.Proofs

open Sys2Proof Sys2Proof.Machine

/-! ### The views of a PNC register after a store -/

/-- The period in numbers: three bits of the high register above the low register (R35). -/
theorem period_toNat (m : Memory) (lo hi : Addr) :
    (period m lo hi).toNat = (m.byte hi).toNat % 8 * 256 + (m.byte lo).toNat := by
  have happend : (period m lo hi).toNat = ((m.byte hi).extractLsb' 0 3).toNat <<< 8 ||| (m.byte lo).toNat :=
    BitVec.toNat_append _ _
  rw [happend, ← Nat.shiftLeft_add_eq_or_of_lt (m.byte lo).isLt, Nat.shiftLeft_eq]
  rfl

/-- Storing the low register replaces bits 7:0 of the period. -/
theorem period_store_low (s : State) {lo hi : Addr} (hne : hi ≠ lo) (d : Byte) :
    (period (s.store lo d).raw lo hi).toNat = (period s.raw lo hi).toNat / 256 * 256 + d.toNat := by
  rw [period_toNat, period_toNat, store_byte_same, State.store_byte, if_neg hne]
  omega

/-- Storing the high register replaces bits 10:8 of the period. -/
theorem period_store_high (s : State) {lo hi : Addr} (hne : lo ≠ hi) (d : Byte) :
    (period (s.store hi d).raw lo hi).toNat = d.toNat % 8 * 256 + (period s.raw lo hi).toNat % 256 := by
  rw [period_toNat, period_toNat, store_byte_same, State.store_byte, if_neg hne]
  omega

/-- Storing the high register sets the enable bit. -/
theorem enabled_store (s : State) (hi : Addr) (d : Byte) : enabled (s.store hi d).raw hi = d[7] :=
  congrArg enableBit (store_byte_same s hi d)

/-! ### The three kinds of PNC register -/

/-- A low period register: the store of R91 and nothing else (R116, R119, R121, R124). -/
theorem exec_lowWrite {i : Instr} {lo hi : Addr} {d : Byte} {s : State} (hlive : s.live = true)
    (hexec : exec i s = whenLive s fun s => s.store lo d) (hne : hi ≠ lo) :
    ∃ t, exec i s = .next t ∧ StoredByte s t lo d ∧
      (period t.raw lo hi).toNat = (period s.raw lo hi).toNat / 256 * 256 + d.toNat ∧
      t.wfm = s.wfm ∧ t.pnc = s.pnc ∧ SameHostSide s t :=
  ⟨s.store lo d, hexec.trans (whenLive_live hlive _), s.store_storedByte lo d, period_store_low s hne d, rfl, rfl,
    rfl, rfl, rfl, rfl, rfl, rfl, rfl⟩

/-- A control register of the PNC unit: the byte is stored, its effect on the unit's internal state is `pncAfter`, and
the other unit and the host side stay. -/
theorem exec_pncControlWrite {i : Instr} {d : Byte} {s : State} (k : ControlReg) (hlive : s.live = true)
    (hexec : exec i s = whenLive s (k.write d)) (hwfm : k.wfmAfter d s.wfm = s.wfm) :
    ∃ t, exec i s = .next t ∧ t.raw = (s.store k.addr d).raw ∧ StoredByte s t k.addr d ∧
      t.pnc = k.pncAfter d s.pnc ∧ t.wfm = s.wfm ∧ SameHostSide s t :=
  ⟨k.write d s, hexec.trans (whenLive_live hlive _), rfl, s.store_storedByte k.addr d, rfl, hwfm, rfl, rfl, rfl, rfl,
    rfl, rfl, rfl⟩

/-- An envelope control register: the two duty bits are the byte's high ones at once (R115, R118). -/
theorem exec_envelopeWrite {i : Instr} {d : Byte} {s : State} (k : ControlReg) (hlive : s.live = true)
    (hexec : exec i s = whenLive s (k.write d)) (hwfm : k.wfmAfter d s.wfm = s.wfm) :
    ∃ t, exec i s = .next t ∧ StoredByte s t k.addr d ∧ dutySel (t.raw.byte k.addr) = d.extractLsb' 6 2 ∧
      t.pnc = k.pncAfter d s.pnc ∧ t.wfm = s.wfm ∧ SameHostSide s t := by
  obtain ⟨t, ht, hraw, hstored, hpnc, hwfm', hhost⟩ := exec_pncControlWrite k hlive hexec hwfm
  have hduty : dutySel (t.raw.byte k.addr) = dutySel d := by rw [hraw, store_byte_same]
  exact ⟨t, ht, hstored, hduty, hpnc, hwfm', hhost⟩

/-- A high register: its byte is the enable bit and the high period bits at once (R117, R120, R122, R125). -/
theorem exec_highWrite {i : Instr} {lo : Addr} {d : Byte} {s : State} {after : Pnc} (k : ControlReg)
    (hlive : s.live = true) (hexec : exec i s = whenLive s (k.write d)) (hwfm : k.wfmAfter d s.wfm = s.wfm)
    (hpnc : k.pncAfter d s.pnc = after) (hne : lo ≠ k.addr) :
    ∃ t, exec i s = .next t ∧ StoredByte s t k.addr d ∧ enabled t.raw k.addr = d[7] ∧
      (period t.raw lo k.addr).toNat = d.toNat % 8 * 256 + (period s.raw lo k.addr).toNat % 256 ∧
      t.pnc = after ∧ t.wfm = s.wfm ∧ SameHostSide s t := by
  obtain ⟨t, ht, hraw, hstored, hpnc', hwfm', hhost⟩ := exec_pncControlWrite k hlive hexec hwfm
  refine ⟨t, ht, hstored, ?_, ?_, hpnc'.trans hpnc, hwfm', hhost⟩
  · rw [hraw, enabled_store]
  · rw [hraw, period_store_high s hne]

/-! ### What disabling a channel zeroes -/

/-- Disabling pulse channel 0 zeroes its timer and sequencer and keeps its envelope (R117). -/
theorem pncAfter_p0hi (d : Byte) (u : Pnc) :
    ControlReg.p0hi.pncAfter d u = { u with p0 := if d[7] then u.p0 else ⟨0, 0, u.p0.env⟩ } :=
  congrArg (fun p => { u with p0 := p }) (pulseHiWrite_eq d u.p0).symm

/-- Disabling pulse channel 1 zeroes its timer and sequencer and keeps its envelope (R120). -/
theorem pncAfter_p1hi (d : Byte) (u : Pnc) :
    ControlReg.p1hi.pncAfter d u = { u with p1 := if d[7] then u.p1 else ⟨0, 0, u.p1.env⟩ } :=
  congrArg (fun p => { u with p1 := p }) (pulseHiWrite_eq d u.p1).symm

/-- Disabling the triangle zeroes its timer and sequencer (R122). -/
theorem pncAfter_thi (d : Byte) (u : Pnc) :
    ControlReg.thi.pncAfter d u = { u with tri := if d[7] then u.tri else ⟨0, 0⟩ } := by
  unfold ControlReg.pncAfter enableBit
  cases d[7] <;> rfl

/-! ### The obligations -/

/-- Settles O19: the law of the envelope control register, at both channels; the effect on the unit is the envelope
`pncCtlEnv` makes of the byte. -/
theorem pulseControlWrites : Obligations.PulseControlWrites := by
  intro s d hlive
  exact ⟨exec_envelopeWrite .p0ctl hlive rfl rfl, exec_envelopeWrite .p1ctl hlive rfl rfl⟩

/-- Settles O20: the law of the low register, at each of the four channels. -/
theorem periodLowWrites : Obligations.PeriodLowWrites := by
  intro s d hlive
  refine ⟨?pulse0, ?pulse1, ?triangle, ?noise⟩
  case pulse0 => exact exec_lowWrite hlive rfl (by decide)
  case pulse1 => exact exec_lowWrite hlive rfl (by decide)
  case triangle => exact exec_lowWrite hlive rfl (by decide)
  case noise => exact exec_lowWrite hlive rfl (by decide)

/-- Settles O21: the law of the high register, at both channels. -/
theorem pulseHighWrites : Obligations.PulseHighWrites := by
  intro s d hlive
  exact ⟨exec_highWrite .p0hi hlive (execWrP0hi_eq d s) rfl (pncAfter_p0hi d s.pnc) (by decide),
    exec_highWrite .p1hi hlive (execWrP1hi_eq d s) rfl (pncAfter_p1hi d s.pnc) (by decide)⟩

/-- Settles O22: the high register, with what disabling the triangle zeroes. -/
theorem triangleHighWrite : Obligations.TriangleHighWrite := by
  intro s d hlive
  exact exec_highWrite .thi hlive (execWrThi_eq d s) rfl (pncAfter_thi d s.pnc) (by decide)

/-- Settles O23: neither effect names the shift register, and disabling zeroes the timer alone. -/
theorem noiseWrites : Obligations.NoiseWrites := by
  intro s d hlive
  refine ⟨?control, ?high⟩
  case control =>
    obtain ⟨t, ht, hstored, _, hpnc, hwfm, hhost⟩ := exec_envelopeWrite .nctl hlive (i := .wrNctl d) rfl rfl
    exact ⟨t, ht, hstored, hpnc, hwfm, hhost⟩
  case high => exact exec_highWrite .nhi hlive (execWrNhi_eq d s) rfl rfl (by decide)

end Sys2Proof.Proofs
end

section
/-! PROOFS. Scope: the PNC step (spec/43_pnc_step.md R130 to R139): the timer, the envelope, the oscillators and the
mixer of one audio step, and what any ADVANCE makes of them. -/

namespace Sys2Proof.Proofs

open Sys2Proof Sys2Proof.Machine

/-! ### The period timer (R133) -/

/-- The clocks a timer keeps fit its 11 bits, since the period does. -/
theorem pncTimer_acc (acc per : BitVec 11) (k : Nat) :
    (pncTimer acc per k).1.toNat = (acc.toNat + k) % (per.toNat + 1) :=
  Nat.mod_eq_of_lt ((Nat.mod_lt _ (Nat.succ_pos _)).trans_le per.isLt)

theorem pncTimer_steps (acc per : BitVec 11) (k : Nat) :
    (pncTimer acc per k).2 = (acc.toNat + k) / (per.toNat + 1) := rfl

/-- Settles O48: quotient and remainder add up, and the remainder is below `period + 1`. -/
theorem timerCountsExactly : Obligations.TimerCountsExactly := by
  intro acc per k
  rw [pncTimer_acc, pncTimer_steps]
  exact ⟨Nat.mod_add_div _ _, Nat.le_of_lt_succ (Nat.mod_lt _ (Nat.succ_pos _))⟩

/-- The clocks may be given in two parts: neither the timer nor the total of steps changes. -/
theorem pncTimer_add (acc per : BitVec 11) (j k : Nat) :
    (pncTimer (pncTimer acc per j).1 per k).1 = (pncTimer acc per (j + k)).1 ∧
      (pncTimer acc per j).2 + (pncTimer (pncTimer acc per j).1 per k).2 = (pncTimer acc per (j + k)).2 := by
  obtain ⟨hrest, hticks⟩ := divider_add (acc.toNat + j) k (Nat.le_add_left 1 per.toNat)
  rw [Nat.add_assoc] at hrest hticks
  refine ⟨BitVec.eq_of_toNat_eq ?_, ?_⟩
  · rw [pncTimer_acc, pncTimer_acc, pncTimer_acc]
    exact hrest
  · rw [pncTimer_steps _ _ k, pncTimer_acc]
    exact hticks

/-- A timer in range does nothing without a clock. -/
theorem pncTimer_zero {acc per : BitVec 11} (h : acc.toNat ≤ per.toNat) : pncTimer acc per 0 = (acc, 0) := by
  have hlt : acc.toNat + 0 < per.toNat + 1 := Nat.lt_succ_of_le h
  refine Prod.ext (BitVec.eq_of_toNat_eq ?_) (Nat.div_eq_of_lt hlt)
  rw [pncTimer_acc, Nat.mod_eq_of_lt hlt, Nat.add_zero]

/-! ### The envelope (R132) -/

theorem valField_toNat (ctl : Byte) : (valField ctl).toNat = ctl.toNat % 16 := by
  simp [valField]

/-- After `t` clocks from a zeroed counter, a decaying envelope has gone down `q` levels, one in every `VAL + 1`
clocks, and its counter holds the clocks since. -/
theorem pncEnvTicks_decay {ctl : Byte} (hdecay : decayBit ctl = true) {e : PncEnv} (hcnt : e.cnt = 0) (t : Nat) :
    ∃ q, t = q * ((valField ctl).toNat + 1) + (Nat.iterate (pncEnvTick ctl) t e).cnt.toNat ∧
      (Nat.iterate (pncEnvTick ctl) t e).lvl.toNat = e.lvl.toNat - q := by
  induction t with
  | zero => exact ⟨0, by simp [hcnt], rfl⟩
  | succ t ih =>
    obtain ⟨q, ht, hlvl⟩ := ih
    have hle : (Nat.iterate (pncEnvTick ctl) t e).cnt.toNat ≤ (valField ctl).toNat :=
      pncEnvTicks_cnt_le t (by simp [hcnt])
    rw [Function.iterate_succ_apply']
    obtain ⟨hconst, _⟩ | ⟨_, hlt, heq⟩ | ⟨_, hge, heq⟩ :=
      pncEnvTick_cases ctl (Nat.iterate (pncEnvTick ctl) t e)
    · simp [hdecay] at hconst
    · refine ⟨q, ?_, ?_⟩
      · rw [heq]
        bv_omega
      · rw [heq]
        exact hlvl
    · refine ⟨q + 1, ?_, ?_⟩
      · rw [heq, Nat.add_mul]
        change t + 1 = q * ((valField ctl).toNat + 1) + 1 * ((valField ctl).toNat + 1) + 0
        omega
      · rw [heq]
        dsimp only
        split
        · bv_omega
        · omega

/-- A constant envelope never moves. -/
theorem pncEnvTicks_constant {ctl : Byte} (hconst : decayBit ctl = false) (e : PncEnv) (t : Nat) :
    Nat.iterate (pncEnvTick ctl) t e = e := by
  refine Function.iterate_fixed ?_ t
  rw [pncEnvTick, hconst, if_neg Bool.false_ne_true]

/-- Settles O49: the counter stays within `VAL`, so the levels gone down are the quotient. -/
theorem pncEnvelopeDecayLaw : Obligations.PncEnvelopeDecayLaw := by
  intro ctl e t
  refine ⟨fun hdecay hcnt => ?_, fun hconst => pncEnvTicks_constant hconst e t⟩
  obtain ⟨q, ht, hlvl⟩ := pncEnvTicks_decay hdecay hcnt t
  have hle : (Nat.iterate (pncEnvTick ctl) t e).cnt.toNat ≤ (valField ctl).toNat :=
    pncEnvTicks_cnt_le t (by simp [hcnt])
  have hq : t / ((valField ctl).toNat + 1) = q :=
    Nat.div_eq_of_lt_le (by omega) (by rw [Nat.add_mul]; omega)
  rw [hlvl, ← valField_toNat, hq]

/-! ### The oscillators in one step (R134 to R136) -/

/-- The output of an enabled pulse oscillator, sampled after its advance (R134). -/
theorem pncPulse_out {c : Cfg} {m : Memory} {ctl lo hi : Addr} {k : Nat} {p : Pulse} (h : enabled m hi = true) :
    (pncPulse c m ctl lo hi k p).2 =
      if (pncPulse c m ctl lo hi k p).1.seq.toNat < dutyHigh c (dutySel (m.byte ctl)) then p.env.lvl.toNat else 0 := by
  unfold pncPulse
  rw [if_pos h]

/-- Settles O53: the sequencer's 3 bits count modulo 8. -/
theorem pulseOutputFollowsDuty : Obligations.PulseOutputFollowsDuty := by
  intro c m ctl lo hi k p
  refine ⟨pncPulse_off, fun h => ⟨?_, ?_, pncPulse_env c m ctl lo hi k p, pncPulse_out h⟩⟩
  · rw [pncPulse_on h]
    exact BitVec.toNat_ofNat _ 3
  · rw [pncPulse_on h]

/-- What an enabled triangle does (R135). -/
theorem pncTri_on {m : Memory} {k : Nat} {t : Triangle} (h : enabled m aTHI = true) :
    (pncTri m k t).1 =
      { acc := (pncTimer t.acc (period m aTLO aTHI) k).1,
        seq := BitVec.ofNat 5 (t.seq.toNat + (pncTimer t.acc (period m aTLO aTHI) k).2) } := by
  simp [pncTri, h]

/-- The output of an enabled triangle, sampled after its advance (R135). -/
theorem pncTri_out {m : Memory} {k : Nat} {t : Triangle} (h : enabled m aTHI = true) :
    (pncTri m k t).2 = triSeq (pncTri m k t).1.seq := by
  unfold pncTri
  rw [if_pos h]

/-- Settles O54: the 32 outputs one by one, and the sequencer's 5 bits count modulo 32. -/
theorem triangleOutputFollowsSequence : Obligations.TriangleOutputFollowsSequence := by
  refine ⟨by decide, fun m k t => ⟨pncTri_off, fun h => ⟨?_, ?_, pncTri_out h⟩⟩⟩
  · rw [pncTri_on h]
    exact BitVec.toNat_ofNat _ 5
  · rw [pncTri_on h]

/-- What an enabled noise channel does (R136). -/
theorem pncNoise_on {m : Memory} {k : Nat} {x : Noise} (h : enabled m aNHI = true) :
    (pncNoise m k x).1 =
      { x with acc := (pncTimer x.acc (period m aNLO aNHI) k).1,
               lfsr := Nat.iterate lfsrShift (pncTimer x.acc (period m aNLO aNHI) k).2 x.lfsr } := by
  simp [pncNoise, h]

/-- The output of an enabled noise channel, by bit 0 after its shifts (R136). -/
theorem pncNoise_out {m : Memory} {k : Nat} {x : Noise} (h : enabled m aNHI = true) :
    (pncNoise m k x).2 = if (pncNoise m k x).1.lfsr[0] then 0 else x.env.lvl.toNat := by
  unfold pncNoise
  rw [if_pos h]

/-- One shift in numbers: half the register, and the feedback at bit 14 (R136). -/
theorem lfsrShift_toNat (l : BitVec 15) :
    (lfsrShift l).toNat = l.toNat / 2 + (if l[0] = l[1] then 0 else 16384) := by
  have happend : (lfsrShift l).toNat = (BitVec.ofBool (l[0] ^^ l[1])).toNat <<< 14 ||| (l.extractLsb' 1 14).toNat :=
    BitVec.toNat_append _ _
  have hhalf : (l.extractLsb' 1 14).toNat = l.toNat / 2 := by
    rw [BitVec.extractLsb'_toNat, Nat.shiftRight_eq_div_pow]
    omega
  rw [happend, ← Nat.shiftLeft_add_eq_or_of_lt (l.extractLsb' 1 14).isLt, hhalf, Nat.add_comm]
  cases l[0] <;> cases l[1] <;> rfl

/-- Settles O56: bit 0 of the register is its value modulo 2. -/
theorem noiseOutputFollowsShiftRegister : Obligations.NoiseOutputFollowsShiftRegister := by
  refine ⟨lfsrShift_toNat, fun m k x => ⟨pncNoise_off, fun h => ⟨?_, ?_, pncNoise_env m k x, ?_⟩⟩⟩
  · rw [pncNoise_on h]
  · rw [pncNoise_on h]
  · simp only [pncNoise_out h, BitVec.getElem_eq_testBit_toNat, Nat.testBit_zero, decide_eq_true_eq]
    split <;> split <;> omega

/-! ### The mixer (R137, R138) -/

theorem pncPulse_out_le_15 (c : Cfg) (m : Memory) (ctl lo hi : Addr) (k : Nat) (p : Pulse) :
    (pncPulse c m ctl lo hi k p).2 ≤ 15 :=
  (pncPulse_out_le c m ctl lo hi k p).trans (Nat.le_of_lt_succ p.env.lvl.isLt)

theorem triSeq_le_15 (s : BitVec 5) : triSeq s ≤ 15 := by
  unfold triSeq
  split <;> omega

theorem pncTri_out_le_15 (m : Memory) (k : Nat) (t : Triangle) : (pncTri m k t).2 ≤ 15 := by
  cases h : enabled m aTHI
  · rw [pncTri_off h]
    exact Nat.zero_le _
  · rw [pncTri_out h]
    exact triSeq_le_15 _

theorem pncNoise_out_le_15 (m : Memory) (k : Nat) (x : Noise) : (pncNoise m k x).2 ≤ 15 := by
  cases h : enabled m aNHI
  · rw [pncNoise_off h]
    exact Nat.zero_le _
  · rw [pncNoise_out h]
    split <;> omega

/-- Four outputs of at most 15 give a sum of at most 60, and `PNC_GAIN` is at most 546: the sample, as a signed number,
is the scaled sum itself (R137). -/
theorem pncMix_sample {c : Cfg} {o0 o1 ot on : Nat} (h0 : o0 ≤ 15) (h1 : o1 ≤ 15) (ht : ot ≤ 15)
    (hn : on ≤ 15) :
    (BitVec.ofNat 16 (pncMix c o0 o1 ot on)).toInt = (c.pncGain * (o0 + o1 + ot + on) : Nat) ∧
      0 ≤ (BitVec.ofNat 16 (pncMix c o0 o1 ot on)).toInt ∧
      (BitVec.ofNat 16 (pncMix c o0 o1 ot on)).toInt ≤ (60 * c.pncGain : Nat) := by
  have hmix : pncMix c o0 o1 ot on ≤ 60 * c.pncGain := by
    rw [pncMix, Nat.mul_comm]
    exact Nat.mul_le_mul_right _ (by omega)
  have hgain := c.pncGain_le
  have hnat : (BitVec.ofNat 16 (pncMix c o0 o1 ot on)).toNat = pncMix c o0 o1 ot on :=
    Nat.mod_eq_of_lt (by omega)
  have hint : (BitVec.ofNat 16 (pncMix c o0 o1 ot on)).toInt = (pncMix c o0 o1 ot on : Nat) := by
    rw [BitVec.toInt_eq_toNat_of_lt (by omega), hnat]
  rw [hint]
  exact ⟨rfl, Int.natCast_nonneg _, Int.ofNat_le.mpr hmix⟩

/-- Settles O57: the parts of a step by name, each output within 15, and the mixer's sample of such outputs. -/
theorem pncStepMixesScaledSum : Obligations.PncStepMixesScaledSum := by
  intro c m u
  obtain ⟨hunit, hsample⟩ := pncStep_parts c m u
  refine ⟨_, _, _, _, _, _, rfl, rfl, rfl, rfl, rfl, rfl, hunit, pncPulse_out_le_15 .., pncPulse_out_le_15 ..,
    pncTri_out_le_15 .., pncNoise_out_le_15 .., ?_⟩
  rw [hsample]
  exact pncMix_sample (pncPulse_out_le_15 ..) (pncPulse_out_le_15 ..) (pncTri_out_le_15 ..) (pncNoise_out_le_15 ..)

/-! ### The unit over many steps -/

/-- A pulse oscillator after `k` internal clocks and `n` envelope clocks. -/
def pulseAdvance (c : Cfg) (m : Memory) (ctl lo hi : Addr) (k n : Nat) (p : Pulse) : Pulse :=
  (pncPulse c m ctl lo hi k { p with env := Nat.iterate (pncEnvTick (m.byte ctl)) n p.env }).1

/-- The noise channel after `k` internal clocks and `n` envelope clocks. -/
def noiseAdvance (m : Memory) (k n : Nat) (x : Noise) : Noise :=
  (pncNoise m k { x with env := Nat.iterate (pncEnvTick (m.byte aNCTL)) n x.env }).1

/-- The PNC unit after `cycles` master-clock cycles, were they all taken in one step. -/
def pncAdvance (c : Cfg) (m : Memory) (cycles : Nat) (u : Pnc) : Pnc :=
  let d := divider (u.divAcc + cycles) c.pncDiv
  let e := divider (u.envAcc + d.ticks) c.pncEnvPeriod
  { p0 := pulseAdvance c m aP0CTL aP0LO aP0HI d.ticks e.ticks u.p0
    p1 := pulseAdvance c m aP1CTL aP1LO aP1HI d.ticks e.ticks u.p1
    tri := (pncTri m d.ticks u.tri).1
    noise := noiseAdvance m d.ticks e.ticks u.noise
    divAcc := d.rest
    envAcc := e.rest }

/-- One PNC step takes `CPS` cycles (R130, R138). -/
theorem pncStep_eq_pncAdvance (c : Cfg) (m : Memory) (u : Pnc) : (pncStep c m u).1 = pncAdvance c m c.cps u := by
  obtain ⟨henv, hp0, hp1, hnoise, htri, hdiv⟩ := pncEnvClk_spec c m (pncClk c u).2 (pncClk c u).1
  rw [(pncStep_parts c m u).1, hp0, hp1, hnoise, htri, hdiv, henv]
  rfl

theorem pulseAdvance_env (c : Cfg) (m : Memory) (ctl lo hi : Addr) (k n : Nat) (p : Pulse) :
    (pulseAdvance c m ctl lo hi k n p).env = Nat.iterate (pncEnvTick (m.byte ctl)) n p.env :=
  pncPulse_env c m ctl lo hi k _

theorem noiseAdvance_env (m : Memory) (k n : Nat) (x : Noise) :
    (noiseAdvance m k n x).env = Nat.iterate (pncEnvTick (m.byte aNCTL)) n x.env :=
  pncNoise_env m k _

theorem pulseAdvance_off {c : Cfg} {m : Memory} {ctl lo hi : Addr} (h : enabled m hi = false) (k n : Nat) (p : Pulse) :
    pulseAdvance c m ctl lo hi k n p = { p with env := Nat.iterate (pncEnvTick (m.byte ctl)) n p.env } := by
  rw [pulseAdvance, pncPulse_off h]

theorem pulseAdvance_on {c : Cfg} {m : Memory} {ctl lo hi : Addr} (h : enabled m hi = true) (k n : Nat) (p : Pulse) :
    pulseAdvance c m ctl lo hi k n p =
      { acc := (pncTimer p.acc (period m lo hi) k).1,
        seq := BitVec.ofNat 3 (p.seq.toNat + (pncTimer p.acc (period m lo hi) k).2),
        env := Nat.iterate (pncEnvTick (m.byte ctl)) n p.env } := pncPulse_on h

theorem noiseAdvance_off {m : Memory} (h : enabled m aNHI = false) (k n : Nat) (x : Noise) :
    noiseAdvance m k n x = { x with env := Nat.iterate (pncEnvTick (m.byte aNCTL)) n x.env } := by
  rw [noiseAdvance, pncNoise_off h]

theorem noiseAdvance_on {m : Memory} (h : enabled m aNHI = true) (k n : Nat) (x : Noise) :
    noiseAdvance m k n x =
      { acc := (pncTimer x.acc (period m aNLO aNHI) k).1,
        lfsr := Nat.iterate lfsrShift (pncTimer x.acc (period m aNLO aNHI) k).2 x.lfsr,
        env := Nat.iterate (pncEnvTick (m.byte aNCTL)) n x.env } := pncNoise_on h

theorem pulseAdvance_zero {c : Cfg} {m : Memory} {ctl lo hi : Addr} {p : Pulse}
    (h : p.acc.toNat ≤ (period m lo hi).toNat) : pulseAdvance c m ctl lo hi 0 0 p = p := by
  cases hen : enabled m hi
  · rw [pulseAdvance_off hen]; rfl
  · rw [pulseAdvance_on hen, pncTimer_zero h, Nat.add_zero, BitVec.ofNat_toNat, BitVec.setWidth_eq]; rfl

theorem pncTri_zero {m : Memory} {t : Triangle} (h : t.acc.toNat ≤ (period m aTLO aTHI).toNat) :
    (pncTri m 0 t).1 = t := by
  cases hen : enabled m aTHI
  · rw [pncTri_off hen]
  · rw [pncTri_on hen, pncTimer_zero h, Nat.add_zero, BitVec.ofNat_toNat, BitVec.setWidth_eq]

theorem noiseAdvance_zero {m : Memory} {x : Noise} (h : x.acc.toNat ≤ (period m aNLO aNHI).toNat) :
    noiseAdvance m 0 0 x = x := by
  cases hen : enabled m aNHI
  · rw [noiseAdvance_off hen]; rfl
  · rw [noiseAdvance_on hen, pncTimer_zero h]; rfl

/-- Where an enabled pulse oscillator stands after `k` clocks. -/
theorem pulseAdvance_position {c : Cfg} {m : Memory} {ctl lo hi : Addr} (h : enabled m hi = true) (k n : Nat)
    (p : Pulse) :
    (pulseAdvance c m ctl lo hi k n p).acc.toNat = (p.acc.toNat + k) % ((period m lo hi).toNat + 1) ∧
      (pulseAdvance c m ctl lo hi k n p).seq.toNat =
        (p.seq.toNat + (p.acc.toNat + k) / ((period m lo hi).toNat + 1)) % 8 := by
  rw [pulseAdvance_on h]
  exact ⟨pncTimer_acc _ _ _, BitVec.toNat_ofNat _ 3⟩

/-- Where an enabled triangle stands after `k` clocks. -/
theorem pncTri_position {m : Memory} (h : enabled m aTHI = true) (k : Nat) (t : Triangle) :
    (pncTri m k t).1.acc.toNat = (t.acc.toNat + k) % ((period m aTLO aTHI).toNat + 1) ∧
      (pncTri m k t).1.seq.toNat = (t.seq.toNat + (t.acc.toNat + k) / ((period m aTLO aTHI).toNat + 1)) % 32 := by
  rw [pncTri_on h]
  exact ⟨pncTimer_acc _ _ _, BitVec.toNat_ofNat _ 5⟩

/-- Where an enabled noise channel stands after `k` clocks. -/
theorem noiseAdvance_position {m : Memory} (h : enabled m aNHI = true) (k n : Nat) (x : Noise) :
    (noiseAdvance m k n x).acc.toNat = (x.acc.toNat + k) % ((period m aNLO aNHI).toNat + 1) ∧
      (noiseAdvance m k n x).lfsr =
        Nat.iterate lfsrShift ((x.acc.toNat + k) / ((period m aNLO aNHI).toNat + 1)) x.lfsr := by
  rw [noiseAdvance_on h]
  exact ⟨pncTimer_acc _ _ _, rfl⟩

/-- A position of `w` bits that is moved twice moves by the sum. -/
theorem ofNat_add_ofNat_toNat (w a x y : Nat) :
    BitVec.ofNat w ((BitVec.ofNat w (a + x)).toNat + y) = BitVec.ofNat w (a + (x + y)) := by
  apply BitVec.eq_of_toNat_eq
  rw [BitVec.toNat_ofNat, BitVec.toNat_ofNat, BitVec.toNat_ofNat, Nat.mod_add_mod, Nat.add_assoc]

/-- Two envelope runs after each other are one. -/
theorem envTicks_add (ctl : Byte) (n n' : Nat) (e : PncEnv) :
    Nat.iterate (pncEnvTick ctl) n' (Nat.iterate (pncEnvTick ctl) n e) = Nat.iterate (pncEnvTick ctl) (n + n') e := by
  rw [Nat.add_comm, Function.iterate_add_apply]

theorem pulseAdvance_add (c : Cfg) (m : Memory) (ctl lo hi : Addr) (k k' n n' : Nat) (p : Pulse) :
    pulseAdvance c m ctl lo hi k' n' (pulseAdvance c m ctl lo hi k n p) =
      pulseAdvance c m ctl lo hi (k + k') (n + n') p := by
  cases h : enabled m hi
  · simp only [pulseAdvance_off h, envTicks_add]
  · obtain ⟨hacc, hsteps⟩ := pncTimer_add p.acc (period m lo hi) k k'
    simp only [pulseAdvance_on h, envTicks_add, ofNat_add_ofNat_toNat, hacc, hsteps]

theorem pncTri_add (m : Memory) (k k' : Nat) (t : Triangle) :
    (pncTri m k' (pncTri m k t).1).1 = (pncTri m (k + k') t).1 := by
  cases h : enabled m aTHI
  · simp only [pncTri_off h]
  · obtain ⟨hacc, hsteps⟩ := pncTimer_add t.acc (period m aTLO aTHI) k k'
    simp only [pncTri_on h, ofNat_add_ofNat_toNat, hacc, hsteps]

theorem noiseAdvance_add (m : Memory) (k k' n n' : Nat) (x : Noise) :
    noiseAdvance m k' n' (noiseAdvance m k n x) = noiseAdvance m (k + k') (n + n') x := by
  cases h : enabled m aNHI
  · simp only [noiseAdvance_off h, envTicks_add]
  · obtain ⟨hacc, hsteps⟩ := pncTimer_add x.acc (period m aNLO aNHI) k k'
    simp only [noiseAdvance_on h, hacc, ← hsteps, ← Function.iterate_add_apply, Nat.add_comm]

/-- Cycles may be taken in two parts: both dividers and every oscillator allow it. -/
theorem pncAdvance_add (c : Cfg) (m : Memory) (x y : Nat) (u : Pnc) :
    pncAdvance c m y (pncAdvance c m x u) = pncAdvance c m (x + y) u := by
  obtain ⟨hdiv, hclocks⟩ := divider_add (u.divAcc + x) y c.pncDiv_pos
  obtain ⟨henv, hticks⟩ := divider_add (u.envAcc + (divider (u.divAcc + x) c.pncDiv).ticks)
    (divider ((divider (u.divAcc + x) c.pncDiv).rest + y) c.pncDiv).ticks c.pncEnvPeriod_pos
  rw [Nat.add_assoc, hclocks] at henv hticks
  rw [Nat.add_assoc] at hdiv hclocks henv hticks
  simp only [pncAdvance, pulseAdvance_add, pncTri_add, noiseAdvance_add, hdiv, hclocks, henv, hticks]

/-- Any number of steps but none is one advance by all their cycles. -/
theorem pncSteps_eq_pncAdvance (c : Cfg) (m : Memory) (n : Nat) (u : Pnc) :
    Nat.iterate (fun u => (pncStep c m u).1) (n + 1) u = pncAdvance c m ((n + 1) * c.cps) u := by
  induction n with
  | zero => rw [Nat.one_mul]; exact pncStep_eq_pncAdvance c m u
  | succ n ih => rw [Function.iterate_succ_apply', ih, pncStep_eq_pncAdvance, pncAdvance_add, ← Nat.succ_mul]

/-! ### ADVANCE -/

/-- Settles O50: a run of steps is one advance, whose dividers are the quotients and remainders asked for; in a run of
no steps both remainders are in range, so neither divider ticks. -/
theorem pncClocksNeverDrift : Obligations.PncClocksNeverDrift := by
  intro s t count hlive hdiv henv hadv
  obtain ⟨_, hpnc, _⟩ := adv_units hlive hadv
  rw [hpnc, State.clocksIn]
  cases s.stepsIn count with
  | zero =>
    have hclocks : s.pnc.divAcc / s.cfg.pncDiv = 0 := Nat.div_eq_of_lt hdiv
    simp [hclocks, Nat.div_eq_of_lt henv, Nat.mod_eq_of_lt hdiv, Nat.mod_eq_of_lt henv]
  | succ n =>
    rw [pncSteps_eq_pncAdvance]
    exact ⟨rfl, rfl, pulseAdvance_env .., pulseAdvance_env .., noiseAdvance_env ..⟩

/-- Over any ADVANCE each oscillator whose timer is in range gets exactly the internal clocks of R130. -/
theorem adv_oscillators {s t : State} {count : BitVec 30} (hlive : s.live = true)
    (hdiv : s.pnc.divAcc < s.cfg.pncDiv) (hadv : exec (.adv count) s = .next t) : ∃ n,
    (s.pnc.p0.acc.toNat ≤ (period s.raw aP0LO aP0HI).toNat →
      t.pnc.p0 = pulseAdvance s.cfg s.raw aP0CTL aP0LO aP0HI (s.clocksIn (s.stepsIn count)) n s.pnc.p0) ∧
    (s.pnc.p1.acc.toNat ≤ (period s.raw aP1LO aP1HI).toNat →
      t.pnc.p1 = pulseAdvance s.cfg s.raw aP1CTL aP1LO aP1HI (s.clocksIn (s.stepsIn count)) n s.pnc.p1) ∧
    (s.pnc.tri.acc.toNat ≤ (period s.raw aTLO aTHI).toNat →
      t.pnc.tri = (pncTri s.raw (s.clocksIn (s.stepsIn count)) s.pnc.tri).1) ∧
    (s.pnc.noise.acc.toNat ≤ (period s.raw aNLO aNHI).toNat →
      t.pnc.noise = noiseAdvance s.raw (s.clocksIn (s.stepsIn count)) n s.pnc.noise) := by
  obtain ⟨_, hpnc, _⟩ := adv_units hlive hadv
  rw [hpnc]
  cases s.stepsIn count with
  | zero =>
    have hclocks : s.clocksIn 0 = 0 := by
      rw [State.clocksIn, Nat.zero_mul]
      exact Nat.div_eq_of_lt hdiv
    rw [hclocks]
    exact ⟨0, fun h => (pulseAdvance_zero h).symm, fun h => (pulseAdvance_zero h).symm,
      fun h => (pncTri_zero h).symm, fun h => (noiseAdvance_zero h).symm⟩
  | succ n =>
    rw [pncSteps_eq_pncAdvance]
    exact ⟨_, fun _ => rfl, fun _ => rfl, fun _ => rfl, fun _ => rfl⟩

/-- Settles O51: each oscillator gets all the clocks at once, and its position is its timer's quotient and
remainder. -/
theorem oscillatorsAdvanceExactly : Obligations.OscillatorsAdvanceExactly := by
  intro s t count hlive hdiv hadv
  obtain ⟨n, hp0, hp1, htri, hnoise⟩ := adv_oscillators hlive hdiv hadv
  refine ⟨fun hon hacc => ?_, fun hon hacc => ?_, fun hon hacc => ?_, fun hon hacc => ?_⟩
  · rw [hp0 hacc]
    exact pulseAdvance_position hon _ _ _
  · rw [hp1 hacc]
    exact pulseAdvance_position hon _ _ _
  · rw [htri hacc]
    exact pncTri_position hon _ _
  · rw [hnoise hacc]
    exact noiseAdvance_position hon _ _ _

/-! ### All channels disabled (R139 (a)) -/

/-- All four channels of the unit are disabled. -/
def AllDisabled (m : Memory) : Prop :=
  enabled m aP0HI = false ∧ enabled m aP1HI = false ∧ enabled m aTHI = false ∧ enabled m aNHI = false

/-- Everything of the unit but its envelopes and the remainders of its clocks. -/
def oscillatorPositions (u : Pnc) :
    BitVec 11 × BitVec 3 × BitVec 11 × BitVec 3 × Triangle × BitVec 11 × BitVec 15 :=
  (u.p0.acc, u.p0.seq, u.p1.acc, u.p1.seq, u.tri, u.noise.acc, u.noise.lfsr)

theorem pncAdvance_positions_off {m : Memory} (h : AllDisabled m) (c : Cfg) (cycles : Nat) (u : Pnc) :
    oscillatorPositions (pncAdvance c m cycles u) = oscillatorPositions u := by
  obtain ⟨hp0, hp1, htri, hnoise⟩ := h
  rw [pncAdvance, pulseAdvance_off hp0, pulseAdvance_off hp1, pncTri_off htri, noiseAdvance_off hnoise]
  rfl

/-- The sum of four outputs of 0, scaled, is 0. -/
theorem pncStep_sample_off {m : Memory} (h : AllDisabled m) (c : Cfg) (u : Pnc) : (pncStep c m u).2 = 0#16 := by
  obtain ⟨hp0, hp1, htri, hnoise⟩ := h
  rw [(pncStep_parts c m u).2, pncPulse_off hp0, pncPulse_off hp1, pncTri_off htri, pncNoise_off hnoise]
  rfl

theorem unitSamples_constant {α : Type} {unitStep : α → α × Sample} {x : Sample} (h : ∀ u, (unitStep u).2 = x)
    (n : Nat) (u : α) : unitSamples unitStep n u = List.replicate n x := by
  induction n generalizing u with
  | zero => rfl
  | succ n ih => rw [unitSamples, h, ih, List.replicate_succ]

/-- Settles O52: a step of the disabled unit moves no oscillator and emits 0, and an ADVANCE is such steps. -/
theorem disabledChannelsAreSilent : Obligations.DisabledChannelsAreSilent := by
  intro s t count hlive hp0 hp1 htri hnoise hadv
  have hoff : AllDisabled s.raw := ⟨hp0, hp1, htri, hnoise⟩
  have hpositions : oscillatorPositions t.pnc = oscillatorPositions s.pnc := by
    obtain ⟨_, hpnc, _⟩ := adv_units hlive hadv
    rw [hpnc]
    refine iterate_same oscillatorPositions _ (fun u => ?_) _ _
    rw [pncStep_eq_pncAdvance]
    exact pncAdvance_positions_off hoff _ _ _
  have hsamples : t.samples.map SamplePair.pnc =
      s.samples.map SamplePair.pnc ++ List.replicate (s.stepsIn count) 0#16 := by
    obtain ⟨rfl, _⟩ := adv_inversion hlive hadv
    obtain ⟨new, hnew, hpncNew, _⟩ := audioSteps_samples (s.stepsIn count) s
    rw [hnew, List.map_append, hpncNew, unitSamples_constant (pncStep_sample_off hoff s.cfg)]
  simp only [oscillatorPositions, Prod.mk.injEq] at hpositions
  obtain ⟨hp0acc, hp0seq, hp1acc, hp1seq, htriangle, hnacc, hlfsr⟩ := hpositions
  exact ⟨hp0acc, hp0seq, hp1acc, hp1seq, htriangle, hnacc, hlfsr, hsamples⟩

end Sys2Proof.Proofs
end

section
/-! PROOFS. Scope: the noise shift register (spec/43_pnc_step.md R136): one shift as a linear map over bits, and its
period. -/

namespace Sys2Proof.Proofs

open Sys2Proof Sys2Proof.Machine

/-! ### One shift -/

/-- The top bit of a shift is the feedback: the old bit 0 xor the old bit 1, which is the new bit 0. -/
theorem lfsrShift_top (l : BitVec 15) :
    (lfsrShift l).getLsbD 14 = (l.getLsbD 0 ^^ (lfsrShift l).getLsbD 0) := by
  rw [lfsrShift_getLsbD, lfsrShift_getLsbD, if_neg (by decide), if_pos (by decide)]
  simp [BitVec.getLsbD_eq_getElem]

/-- A shift loses nothing: bit 0 comes back out of the feedback. -/
theorem lfsrShift_injective : Function.Injective lfsrShift := by
  intro l l' h
  have hhigh (i : Nat) (hi : i < 14) : l.getLsbD (i + 1) = l'.getLsbD (i + 1) := by
    have hbit : (lfsrShift l).getLsbD i = (lfsrShift l').getLsbD i := by rw [h]
    rwa [lfsrShift_getLsbD, lfsrShift_getLsbD, if_pos hi, if_pos hi] at hbit
  have hlow : l.getLsbD 0 = l'.getLsbD 0 := by
    have htop : (lfsrShift l).getLsbD 14 = (lfsrShift l').getLsbD 14 := by rw [h]
    rwa [lfsrShift_top, lfsrShift_top, h, Bool.xor_left_inj] at htop
  apply BitVec.eq_of_getLsbD_eq
  intro i hi
  cases i with
  | zero => exact hlow
  | succ j => exact hhigh j (by omega)

theorem lfsrShift_eq_zero_iff (l : BitVec 15) : lfsrShift l = 0 ↔ l = 0 := by
  refine ⟨fun h => by_contra fun hl => lfsrShift_ne_zero hl h, ?_⟩
  rintro rfl
  rfl

/-! ### Many shifts -/

/-- A shift is linear over bits. -/
theorem lfsrShift_xor (a b : BitVec 15) : lfsrShift (a ^^^ b) = lfsrShift a ^^^ lfsrShift b := by
  apply BitVec.eq_of_getLsbD_eq
  intro i _
  rw [BitVec.getLsbD_xor, lfsrShift_getLsbD, lfsrShift_getLsbD, lfsrShift_getLsbD]
  split
  · exact BitVec.getLsbD_xor
  · have hi : i - 14 = 0 := by omega
    simp [hi, Bool.xor_left_comm]

theorem lfsrShifts_xor (n : Nat) (a b : BitVec 15) :
    Nat.iterate lfsrShift n (a ^^^ b) = Nat.iterate lfsrShift n a ^^^ Nat.iterate lfsrShift n b := by
  induction n generalizing a b with
  | zero => rfl
  | succ n ih => exact (congrArg _ (lfsrShift_xor a b)).trans (ih _ _)

/-- Until it falls out at bit 0, a bit only moves down. -/
theorem lfsrShifts_getLsbD {n i : Nat} (h : n + i < 15) (l : BitVec 15) :
    (Nat.iterate lfsrShift n l).getLsbD i = l.getLsbD (n + i) := by
  induction n generalizing l with
  | zero => rw [Nat.zero_add]; rfl
  | succ n ih =>
    rw [Function.iterate_succ_apply, ih (by omega), lfsrShift_getLsbD, if_pos (by omega), Nat.add_right_comm]

/-- 15 shifts replace every bit by its feedback: the register's polynomial is `x^15 = 1 + x`. -/
theorem lfsrShifts_fifteen (l : BitVec 15) : Nat.iterate lfsrShift 15 l = l ^^^ lfsrShift l := by
  apply BitVec.eq_of_getLsbD_eq
  intro i hi
  have hsplit : Nat.iterate lfsrShift 15 l =
      Nat.iterate lfsrShift (14 - i) (lfsrShift (Nat.iterate lfsrShift i l)) := by
    rw [← Function.iterate_succ_apply' lfsrShift, ← Function.iterate_add_apply]
    congr 1
    omega
  have hcommute : lfsrShift (Nat.iterate lfsrShift i l) = Nat.iterate lfsrShift i (lfsrShift l) := by
    rw [← Function.iterate_succ_apply' lfsrShift, Function.iterate_succ_apply]
  rw [hsplit, lfsrShifts_getLsbD (by omega), show 14 - i + i = 14 by omega, lfsrShift_top, hcommute,
    lfsrShifts_getLsbD (by omega), lfsrShifts_getLsbD (by omega), BitVec.getLsbD_xor, Nat.add_zero]

/-- What two sums share drops out of their sum. -/
theorem xor_xor_cancel {w : Nat} (a b c : BitVec w) : a ^^^ b ^^^ (b ^^^ c) = a ^^^ c := by
  rw [BitVec.xor_assoc, ← BitVec.xor_assoc b b, BitVec.xor_self, BitVec.zero_xor]

/-- Squaring the polynomial doubles the shifts: linear maps over bits that commute square term by term. -/
theorem lfsrShifts_fifteen_pow (j : Nat) (l : BitVec 15) :
    Nat.iterate lfsrShift (15 * 2 ^ j) l = l ^^^ Nat.iterate lfsrShift (2 ^ j) l := by
  induction j generalizing l with
  | zero => exact lfsrShifts_fifteen l
  | succ j ih =>
    rw [Nat.pow_succ, ← Nat.mul_assoc, Nat.mul_two, Nat.mul_two, Function.iterate_add_apply, ih, ih, lfsrShifts_xor,
      xor_xor_cancel, ← Function.iterate_add_apply]

/-- `2^j` shifts. -/
def lfsrLeap (l : BitVec 15) (j : Nat) : BitVec 15 := Nat.iterate lfsrShift (2 ^ j) l

/-- The leaps of a register follow a short recurrence of their own (`x^16 = x + x^2`, squared `j` times). -/
theorem lfsrLeap_add_four (l : BitVec 15) (j : Nat) : lfsrLeap l (j + 4) = lfsrLeap l j ^^^ lfsrLeap l (j + 1) := by
  have hsum : 2 ^ (j + 4) = 2 ^ j + 15 * 2 ^ j := by
    rw [Nat.pow_add]
    omega
  rw [lfsrLeap, hsum, Function.iterate_add_apply, lfsrShifts_fifteen_pow, lfsrShifts_xor,
    ← Function.iterate_add_apply, ← Nat.two_mul, ← Nat.pow_succ']
  rfl

theorem lfsrLeap_add_eight (l : BitVec 15) (j : Nat) : lfsrLeap l (j + 8) = lfsrLeap l j ^^^ lfsrLeap l (j + 2) := by
  rw [lfsrLeap_add_four l (j + 4), lfsrLeap_add_four l j, lfsrLeap_add_four l (j + 1), xor_xor_cancel]

/-- `2^15` shifts are one shift. -/
theorem lfsrLeap_fifteen (l : BitVec 15) : lfsrLeap l 15 = lfsrShift l :=
  calc lfsrLeap l 15 = lfsrLeap l 7 ^^^ lfsrLeap l 9 := lfsrLeap_add_eight l 7
    _ = lfsrLeap l 4 ^^^ lfsrLeap l 3 ^^^ (lfsrLeap l 3 ^^^ lfsrLeap l 1) := by
      rw [lfsrLeap_add_four l 3, lfsrLeap_add_eight l 1, BitVec.xor_comm (lfsrLeap l 3) (lfsrLeap l 4),
        BitVec.xor_comm (lfsrLeap l 1)]
    _ = lfsrLeap l 0 ^^^ lfsrLeap l 1 ^^^ (lfsrLeap l 1 ^^^ 0#15) := by
      rw [xor_xor_cancel, lfsrLeap_add_four l 0, BitVec.xor_zero]
    _ = lfsrLeap l 0 := by rw [xor_xor_cancel, BitVec.xor_zero]

/-! ### The period -/

/-- Every value comes back after 32767 shifts. -/
theorem lfsrShifts_period (l : BitVec 15) : Function.IsPeriodicPt lfsrShift 32767 l := by
  have hleap : Nat.iterate lfsrShift (32767 + 1) l = lfsrShift l := lfsrLeap_fifteen l
  rw [Function.iterate_succ_apply'] at hleap
  exact lfsrShift_injective hleap

/-- A value that comes back after `n` steps and after no `n / p`, for a prime factor `p`, comes back no earlier. -/
theorem not_isPeriodicPt_of_lt {α : Type} {f : α → α} {x : α} {n k : Nat} (hn : Function.IsPeriodicPt f n x)
    (hprime : ∀ p, p.Prime → p ∣ n → ¬ Function.IsPeriodicPt f (n / p) x) (hpos : 0 < k) (hlt : k < n) :
    ¬ Function.IsPeriodicPt f k x := by
  intro hk
  have hle : k.gcd n ≤ k := Nat.gcd_le_left n hpos
  obtain ⟨q, hq⟩ := Nat.gcd_dvd_right k n
  have hq1 : q ≠ 1 := by
    rintro rfl
    omega
  obtain ⟨p, hp, r, rfl⟩ := Nat.exists_prime_and_dvd hq1
  have hn' : n = p * (k.gcd n * r) := hq.trans (Nat.mul_left_comm _ _ _)
  refine hprime p hp ⟨_, hn'⟩ ((hk.gcd hn).trans_dvd ⟨r, ?_⟩)
  exact Nat.div_eq_of_eq_mul_right hp.pos hn'

/-- The prime factors of the period. -/
theorem prime_dvd_period {p : Nat} (hp : p.Prime) (h : p ∣ 32767) : p = 7 ∨ p = 31 ∨ p = 151 := by
  rw [show 32767 = 7 * (31 * 151) by norm_num, hp.dvd_mul, hp.dvd_mul,
    Nat.prime_dvd_prime_iff_eq hp (by norm_num), Nat.prime_dvd_prime_iff_eq hp (by norm_num),
    Nat.prime_dvd_prime_iff_eq hp (by norm_num)] at h
  exact h

/-- A long run of shifts, with `2^j` of them made at once. -/
theorem lfsrShifts_leap (j n : Nat) (l : BitVec 15) :
    Nat.iterate lfsrShift (2 ^ j + n) l = lfsrLeap (Nat.iterate lfsrShift n l) j := Function.iterate_add_apply _ _ _ _

theorem lfsrShifts_4681_ne : Nat.iterate lfsrShift 4681 1 ≠ 1 := by
  rw [show 4681 = 2 ^ 12 + (2 ^ 9 + 73) from rfl, lfsrShifts_leap, lfsrShifts_leap, lfsrLeap_add_eight _ 4,
    lfsrLeap_add_eight _ 1]
  decide +kernel

theorem lfsrShifts_1057_ne : Nat.iterate lfsrShift 1057 1 ≠ 1 := by
  rw [show 1057 = 2 ^ 10 + 33 from rfl, lfsrShifts_leap, lfsrLeap_add_eight _ 2]
  decide +kernel

theorem lfsrShifts_217_ne : Nat.iterate lfsrShift 217 1 ≠ 1 := by
  rw [show 217 = 2 ^ 7 + 89 from rfl, lfsrShifts_leap, lfsrLeap_add_four _ 3]
  decide +kernel

/-- Settles O55: 32767 is a period, and no quotient of it by one of its prime factors is. -/
theorem shiftRegisterHasFullPeriod : Obligations.ShiftRegisterHasFullPeriod := by
  refine ⟨fun _ _ h => lfsrShift_injective h, lfsrShift_eq_zero_iff, lfsrShifts_period 1, fun n hpos hlt => ?_⟩
  refine not_isPeriodicPt_of_lt (lfsrShifts_period 1) (fun p hp hdvd => ?_) hpos hlt
  obtain rfl | rfl | rfl := prime_dvd_period hp hdvd
  · exact lfsrShifts_4681_ne
  · exact lfsrShifts_1057_ne
  · exact lfsrShifts_217_ne

end Sys2Proof.Proofs
end

section
/-! PROOFS. Scope: WRITE to the WFM registers (spec/44_wfm_registers.md R150 to R159): the views of the stored byte, and
each register's side effects. -/

namespace Sys2Proof.Proofs

open Sys2Proof Sys2Proof.Machine

/-! ### The addresses of the waveform tables -/

/-- `CWAVE[i]` in numbers (R150). -/
theorem cwaveAddr_toNat (i : BitVec 6) : (cwaveAddr i).toNat = i.toNat :=
  calc (cwaveAddr i).toNat = 0 <<< 6 ||| i.toNat := BitVec.toNat_append _ _
    _ = i.toNat := by simp

/-- `MWAVE[i]` in numbers (R151). -/
theorem mwaveAddr_toNat (i : BitVec 6) : (mwaveAddr i).toNat = 0x40 + i.toNat :=
  calc (mwaveAddr i).toNat = 1 <<< 6 ||| i.toNat := BitVec.toNat_append _ _
    _ = 0x40 + i.toNat := (Nat.shiftLeft_add_eq_or_of_lt i.isLt 1).symm

/-! ### The frequency views after a store -/

/-- The 12-bit frequency of the registers at `lo` and `hi` (R23): `cfreq` and `mfreq` are its two uses. -/
def frequency (m : Memory) (lo hi : Addr) : BitVec 12 := (m.byte hi).extractLsb' 0 4 ++ m.byte lo

theorem cfreq_eq_frequency (m : Memory) : cfreq m = frequency m aCFLO aCFHI := rfl

theorem mfreq_eq_frequency (m : Memory) : mfreq m = frequency m aMFLO aMFHI := rfl

/-- The frequency in numbers: four bits of the high register above the low register (R23). -/
theorem frequency_toNat (m : Memory) (lo hi : Addr) :
    (frequency m lo hi).toNat = (m.byte hi).toNat % 16 * 256 + (m.byte lo).toNat := by
  have happend : (frequency m lo hi).toNat = ((m.byte hi).extractLsb' 0 4).toNat <<< 8 ||| (m.byte lo).toNat :=
    BitVec.toNat_append _ _
  rw [happend, ← Nat.shiftLeft_add_eq_or_of_lt (m.byte lo).isLt, Nat.shiftLeft_eq]
  rfl

/-- Storing the low register replaces bits 7:0 of the frequency. -/
theorem frequency_store_low (s : State) {lo hi : Addr} (hne : hi ≠ lo) (d : Byte) :
    (frequency (s.store lo d).raw lo hi).toNat = (frequency s.raw lo hi).toNat / 256 * 256 + d.toNat := by
  rw [frequency_toNat, frequency_toNat, store_byte_same, State.store_byte, if_neg hne]
  omega

/-- Storing the high register replaces bits 11:8 of the frequency. -/
theorem frequency_store_high (s : State) {lo hi : Addr} (hne : lo ≠ hi) (d : Byte) :
    (frequency (s.store hi d).raw lo hi).toNat = d.toNat % 16 * 256 + (frequency s.raw lo hi).toNat % 256 := by
  rw [frequency_toNat, frequency_toNat, store_byte_same, State.store_byte, if_neg hne]
  omega

/-! ### The two kinds of WFM register -/

/-- A register without side effect: the store of R91 and nothing else (R150, R151, R153, R157 to R159). -/
theorem exec_store {i : Instr} {a : Addr} {d : Byte} {s : State} (hlive : s.live = true)
    (hexec : exec i s = whenLive s fun s => s.store a d) : exec i s = .next (s.store a d) :=
  hexec.trans (whenLive_live hlive _)

theorem store_sameHostSide (s : State) (a : Addr) (d : Byte) : SameHostSide s (s.store a d) :=
  ⟨rfl, rfl, rfl, rfl, rfl, rfl, rfl⟩

/-- A control register: the store and the register's side effects (R152, R154 to R156). -/
theorem exec_controlWrite {i : Instr} {d : Byte} {s : State} (k : ControlReg) (hlive : s.live = true)
    (hexec : exec i s = whenLive s (k.write d)) : exec i s = .next (k.write d s) :=
  hexec.trans (whenLive_live hlive _)

theorem ControlReg.write_storedByte (k : ControlReg) (s : State) (d : Byte) :
    StoredByte s (k.write d s) k.addr d :=
  s.store_storedByte k.addr d

theorem ControlReg.write_byte_same (k : ControlReg) (s : State) (d : Byte) : (k.write d s).raw.byte k.addr = d :=
  store_byte_same s k.addr d

theorem ControlReg.write_sameHostSide (k : ControlReg) (s : State) (d : Byte) : SameHostSide s (k.write d s) :=
  store_sameHostSide s k.addr d

/-- A phase that a clear bit 7 zeroes has its table index zeroed with it (R26). -/
theorem phaseIndex_ite (b : Bool) (p : Phase) :
    phaseIndex (if b then p else 0) = if b then phaseIndex p else 0 :=
  apply_ite phaseIndex _ _ _

/-! ### The obligations -/

/-- Settles O13: a table write is a plain store, and the entry's view is the low bits of the cell. -/
theorem waveTableWrites : Obligations.WaveTableWrites := by
  intro s i d hlive
  refine ⟨?carrier, ?modulator⟩
  case carrier =>
    have hview : cwave (s.store (cwaveAddr i) d).raw i = d.extractLsb' 0 6 := by rw [cwave, store_byte_same]
    exact ⟨_, exec_store hlive rfl, cwaveAddr_toNat i, s.store_storedByte _ d, hview, rfl, rfl,
      store_sameHostSide s _ d⟩
  case modulator =>
    have hview : msel (s.store (mwaveAddr i) d).raw i = d.extractLsb' 0 3 := by rw [msel, store_byte_same]
    exact ⟨_, exec_store hlive rfl, mwaveAddr_toNat i, s.store_storedByte _ d, hview, rfl, rfl,
      store_sameHostSide s _ d⟩

/-- Settles O14: the law of the low register, at both units' frequencies, and of the modulator's high register; the
multiplier is a view of the frequency. -/
theorem frequencyByteWrites : Obligations.FrequencyByteWrites := by
  intro s d hlive
  simp only [cfreq_eq_frequency, mfreq_eq_frequency]
  refine ⟨?cflo, ?mflo, ?mfhi⟩
  case cflo =>
    exact ⟨_, exec_store hlive rfl, s.store_storedByte _ d, frequency_store_low s (by decide) d, rfl, rfl, rfl,
      store_sameHostSide s _ d⟩
  case mflo =>
    exact ⟨_, exec_store hlive rfl, s.store_storedByte _ d, frequency_store_low s (by decide) d, rfl, rfl, rfl,
      store_sameHostSide s _ d⟩
  case mfhi =>
    exact ⟨_, exec_store hlive rfl, s.store_storedByte _ d, frequency_store_high s (by decide) d, rfl, rfl, rfl,
      store_sameHostSide s _ d⟩

/-- Settles O15: the frequency changes as by the plain store, and the one side effect is on the carrier's phase. -/
theorem carrierHighWrite : Obligations.CarrierHighWrite := by
  intro s d hlive
  have hfreq : (cfreq (ControlReg.cfhi.write d s).raw).toNat = d.toNat % 16 * 256 + (cfreq s.raw).toNat % 256 := by
    simp only [cfreq_eq_frequency]
    exact frequency_store_high s (by decide) d
  have hcen : cen (ControlReg.cfhi.write d s).raw = d[7] := congrArg enableBit (ControlReg.cfhi.write_byte_same s d)
  exact ⟨_, exec_controlWrite .cfhi hlive (execWrCfhi_eq d s), ControlReg.cfhi.write_storedByte s d, hfreq, rfl, hcen,
    rfl, phaseIndex_ite d[7] s.wfm.cPhase, rfl, ControlReg.cfhi.write_sameHostSide s d⟩

/-- Settles O16: the side effects are on the bias, whatever the byte, and on the modulator's phase. -/
theorem modulatorControlWrite : Obligations.ModulatorControlWrite := by
  intro s d hlive
  have hmen : men (ControlReg.mctl.write d s).raw = d[7] := congrArg enableBit (ControlReg.mctl.write_byte_same s d)
  exact ⟨_, exec_controlWrite .mctl hlive (execWrMctl_eq d s), ControlReg.mctl.write_storedByte s d, hmen, rfl,
    phaseIndex_ite d[7] s.wfm.mPhase, rfl, ControlReg.mctl.write_sameHostSide s d⟩

/-- Settles O17: the side effect of either volume register is the envelope `wfmVolWrite` makes of the byte. -/
theorem volumeWrites : Obligations.VolumeWrites := by
  intro s d hlive
  refine ⟨?carrier, ?modulator⟩
  case carrier =>
    exact ⟨_, exec_controlWrite .cvol hlive rfl, ControlReg.cvol.write_storedByte s d, rfl, rfl,
      ControlReg.cvol.write_sameHostSide s d⟩
  case modulator =>
    exact ⟨_, exec_controlWrite .mvol hlive rfl, ControlReg.mvol.write_storedByte s d, rfl, rfl,
      ControlReg.mvol.write_sameHostSide s d⟩

/-- Settles O18: a plain store, and the level is the low bits of the cell. -/
theorem masterWrite : Obligations.MasterWrite := by
  intro s d hlive
  have hview : master (s.store aMASTER d).raw = d.extractLsb' 0 2 := by rw [master, store_byte_same]
  exact ⟨_, exec_store hlive rfl, s.store_storedByte _ d, hview, rfl, rfl, store_sameHostSide s _ d⟩

end Sys2Proof.Proofs
end

section
/-! PROOFS. Scope: the monotonicity of the log-domain scaler (spec/45_wfm_step.md R182 (h), spec/41_log_volume_unit.md
R104), derived from the exact definitions of both tables. -/

namespace Sys2Proof.Proofs

open Sys2Proof Sys2Proof.Machine

/-! ### Both tables fall -/

theorem two_pow_mul_pow_le {k k' x y n : Nat} (hk : k ≤ k') (hxy : x ≤ y) : 2 ^ k * x ^ n ≤ 2 ^ k' * y ^ n :=
  Nat.mul_le_mul (Nat.pow_le_pow_right Nat.two_pos hk) (Nat.pow_le_pow_left hxy n)

/-- The exact logarithm falls as the number grows: were it larger for `y`, both definitions could not bound the same
power of two (R101). -/
theorem LinearEntryExact.antitone {l l' x y : Nat} (hxy : x ≤ y) (hx : LinearEntryExact l x)
    (hy : LinearEntryExact l' y) : l' ≤ l := by
  by_contra hlt
  have hbelow : 2 ^ 28672 < 2 ^ 28672 :=
    calc 2 ^ 28672 < 2 ^ (l + 1) * x ^ 4096 := hx.2
      _ ≤ 2 ^ l' * y ^ 4096 := two_pow_mul_pow_le (Nat.not_le.mp hlt) hxy
      _ ≤ 2 ^ 28672 := hy.1
  exact Nat.lt_irrefl _ hbelow

theorem linearToLog_zero : linearToLog 0 = 122880 := rfl

/-- The entry of 0 stands apart from the others, and above them (R101). -/
theorem linearToLog_antitone {x y : BitVec 7} (h : x.toNat ≤ y.toNat) : linearToLog y ≤ linearToLog x := by
  rcases eq_or_ne y 0 with rfl | hy
  · obtain rfl : x = 0 := BitVec.eq_of_toNat_eq (Nat.le_zero.mp h)
    exact Nat.le_refl _
  have hexact := linearToLog_exact y hy
  rcases eq_or_ne x 0 with rfl | hx
  · have hpos : 0 < y.toNat := Nat.pos_of_ne_zero fun hzero => hy (BitVec.eq_of_toNat_eq hzero)
    have hle := hexact.le hpos
    rw [linearToLog_zero]
    omega
  · exact (linearToLog_exact x hx).antitone h hexact

/-- The exact entry of fraction `i'`, taken `d` octaves further down, is at most that of `i`, whenever its attenuation
is at least as large (R100). -/
theorem LogEntryExact.div_octaves_le {t t' i i' d : Nat} (h : i ≤ d * 4096 + i') (hi : LogEntryExact t i)
    (hi' : LogEntryExact t' i') : t' / 2 ^ d ≤ t := by
  obtain ⟨_, hlt⟩ := hi
  obtain ⟨hle', _⟩ := hi'
  have hexponent : 122880 - i' ≤ 122880 - i + d * 4096 := by omega
  have hoctaves (n : Nat) : (t + 1) ^ n * 2 ^ (d * n) = ((t + 1) * 2 ^ d) ^ n := by rw [Nat.mul_pow, Nat.pow_mul]
  have hpow : t' ^ 4096 < ((t + 1) * 2 ^ d) ^ 4096 :=
    calc t' ^ 4096 ≤ 2 ^ (122880 - i') := hle'
      _ ≤ 2 ^ (122880 - i + d * 4096) := Nat.pow_le_pow_right Nat.two_pos hexponent
      _ = 2 ^ (122880 - i) * 2 ^ (d * 4096) := Nat.pow_add _ _ _
      _ < (t + 1) ^ 4096 * 2 ^ (d * 4096) := Nat.mul_lt_mul_of_pos_right hlt (Nat.two_pow_pos _)
      _ = ((t + 1) * 2 ^ d) ^ 4096 := hoctaves 4096
  have hbelow : t' < (t + 1) * 2 ^ d := lt_of_pow_lt_pow_left' 4096 hpow
  exact Nat.le_of_lt_succ ((Nat.div_lt_iff_lt_mul (Nat.two_pow_pos d)).mpr hbelow)

/-! ### The scaler -/

/-- The entry that `logToLinear` reads is the exact one of the fraction of its argument. -/
theorem log2lin_fraction_exact (l : Nat) : LogEntryExact (log2lin (BitVec.ofNat 12 (l % 4096))) (l % 4096) := by
  have hindex : (BitVec.ofNat 12 (l % 4096)).toNat = l % 4096 := Nat.mod_mod l 4096
  have hexact := log2lin_exact (BitVec.ofNat 12 (l % 4096))
  rwa [hindex] at hexact

/-- More attenuation never gives a larger number: the shift of `l'` is that of `l` and the octaves between them. -/
theorem logToLinear_antitone {l l' : Nat} (h : l ≤ l') {sft : Int} (hsft : -23 ≤ sft) :
    logToLinear l' sft ≤ logToLinear l sft := by
  rcases le_or_gt 122880 l' with hzero | hlt
  · rw [logToLinear_of_le hzero]
    exact Nat.zero_le _
  · have hshift : (((l' / 4096 : Nat) : Int) + sft + 23).toNat =
        (l' / 4096 - l / 4096) + (((l / 4096 : Nat) : Int) + sft + 23).toNat := by omega
    rw [logToLinear_of_lt hlt, logToLinear_of_lt (Nat.lt_of_le_of_lt h hlt), hshift, Nat.pow_add,
      ← Nat.div_div_eq_div_mul]
    exact Nat.div_le_div_right ((log2lin_fraction_exact l).div_octaves_le (by omega) (log2lin_fraction_exact l'))

/-- A factor of 0 brings the sum of the logarithms to `LOG_ZERO` (R104). -/
theorem logMul_zero {a b : BitVec 7} (h : a = 0 ∨ b = 0) (g : Nat) (sft : Int) : logMul a b g sft = 0 := by
  refine logToLinear_of_le ?_ sft
  rcases h with rfl | rfl
  · rw [linearToLog_zero]
    omega
  · rw [linearToLog_zero]
    omega

/-- Settles O34: larger factors and a smaller gain give a smaller sum of logarithms. -/
theorem scalerIsMonotone : Obligations.ScalerIsMonotone := by
  refine ⟨fun a a' b b' g g' sft hsft ha hb hg => ?_, fun a b g sft h => logMul_zero h g sft⟩
  exact logToLinear_antitone (Nat.add_le_add (Nat.add_le_add (linearToLog_antitone ha) (linearToLog_antitone hb)) hg)
    hsft

end Sys2Proof.Proofs
end

section
/-! PROOFS. Scope: the envelopes of both units clock by clock (spec/45_wfm_step.md R172, spec/43_pnc_step.md R132), the
ramp laws of the WFM envelope (R183), and the envelope clock over any ADVANCE (R171). -/

namespace Sys2Proof.Proofs

open Sys2Proof Sys2Proof.Machine

/-! ### One envelope clock (R172, R132) -/

theorem volField_toNat (reg : Byte) : (volField reg).toNat = reg.toNat % 64 := by
  simp [volField]

/-- The level after one step of a ramp, up to 31 or down to 0 (R172). -/
def rampStep (reg : Byte) (lvl : BitVec 6) : BitVec 6 :=
  if rampUp reg then (if lvl.toNat < 31 then lvl + 1 else lvl) else (if lvl.toNat > 0 then lvl - 1 else lvl)

theorem rampStep_toNat (reg : Byte) (lvl : BitVec 6) :
    (rampStep reg lvl).toNat =
      if rampUp reg then (if lvl.toNat < 31 then lvl.toNat + 1 else lvl.toNat) else lvl.toNat - 1 := by
  unfold rampStep
  split
  · split
    · bv_omega
    · rfl
  · split
    · bv_omega
    · omega

theorem wfmEgTick_fixed {reg : Byte} (hfixed : fixedMode reg = true) (e : WfmEnv) : wfmEgTick reg e = e :=
  if_pos hfixed

/-- Below the rate the counter counts. -/
theorem wfmEgTick_counts {reg : Byte} {e : WfmEnv} (hramp : fixedMode reg = false)
    (hlt : e.cnt.toNat < (volField reg).toNat) : wfmEgTick reg e = ⟨e.lvl, e.cnt + 1⟩ := by
  rw [wfmEgTick, hramp, if_neg Bool.false_ne_true, if_neg (Nat.not_le.mpr hlt)]

/-- At the rate the counter starts again and the level moves one step. -/
theorem wfmEgTick_moves {reg : Byte} {e : WfmEnv} (hramp : fixedMode reg = false)
    (hle : (volField reg).toNat ≤ e.cnt.toNat) : wfmEgTick reg e = ⟨rampStep reg e.lvl, 0⟩ := by
  rw [wfmEgTick, hramp, if_neg Bool.false_ne_true, if_pos hle]
  rfl

theorem pncEnvTick_constant {ctl : Byte} (hconst : decayBit ctl = false) (e : PncEnv) : pncEnvTick ctl e = e :=
  pncEnvTicks_constant hconst e 1

theorem pncEnvTick_counts {ctl : Byte} {e : PncEnv} (hdecay : decayBit ctl = true)
    (hlt : e.cnt.toNat < (valField ctl).toNat) : pncEnvTick ctl e = ⟨e.lvl, e.cnt + 1⟩ := by
  rw [pncEnvTick, if_pos hdecay, if_neg (Nat.not_le.mpr hlt)]

theorem pncEnvTick_falls {ctl : Byte} {e : PncEnv} (hdecay : decayBit ctl = true)
    (hle : (valField ctl).toNat ≤ e.cnt.toNat) :
    pncEnvTick ctl e = ⟨if e.lvl.toNat > 0 then e.lvl - 1 else e.lvl, 0⟩ := by
  rw [pncEnvTick, if_pos hdecay, if_pos hle]

/-- Settles O43: the two units' clocks case by case; a counter below its limit is below its width's. -/
theorem envelopeTickRules : Obligations.EnvelopeTickRules := by
  refine ⟨fun reg e =>
      ⟨fun hfixed => wfmEgTick_fixed hfixed e, fun hramp hlt => ?wfmCounts, fun hramp hle => ?wfmMoves⟩,
    fun ctl e =>
      ⟨fun hconst => pncEnvTick_constant hconst e, fun hdecay hlt => ?pncCounts, fun hdecay hle => ?pncFalls⟩⟩
  case wfmCounts =>
    rw [wfmEgTick_counts hramp (by rwa [volField_toNat])]
    exact ⟨by bv_omega, rfl⟩
  case wfmMoves =>
    rw [wfmEgTick_moves hramp (by rwa [volField_toNat])]
    exact ⟨rfl, rampStep_toNat reg e.lvl⟩
  case pncCounts =>
    rw [pncEnvTick_counts hdecay (by rwa [valField_toNat])]
    exact ⟨by bv_omega, rfl⟩
  case pncFalls =>
    rw [pncEnvTick_falls hdecay (by rwa [valField_toNat])]
    refine ⟨rfl, ?_⟩
    dsimp only
    split
    · bv_omega
    · omega

/-! ### Many envelope clocks in ramp mode (R183) -/

/-- After `t` clocks from a zeroed counter the level has moved `q` steps, one in every `r + 1` clocks, and the counter
holds the clocks since. -/
theorem wfmEgTicks_ramp {reg : Byte} (hramp : fixedMode reg = false) {e : WfmEnv} (hcnt : e.cnt = 0) (t : Nat) :
    ∃ q, t = q * ((volField reg).toNat + 1) + (Nat.iterate (wfmEgTick reg) t e).cnt.toNat ∧
      (Nat.iterate (wfmEgTick reg) t e).cnt.toNat ≤ (volField reg).toNat ∧
      (Nat.iterate (wfmEgTick reg) t e).lvl = Nat.iterate (rampStep reg) q e.lvl := by
  induction t with
  | zero => exact ⟨0, by simp [hcnt], by simp [hcnt], rfl⟩
  | succ t ih =>
    obtain ⟨q, ht, hle, hlvl⟩ := ih
    rw [Function.iterate_succ_apply']
    rcases Nat.lt_or_ge (Nat.iterate (wfmEgTick reg) t e).cnt.toNat (volField reg).toNat with hlt | hge
    · rw [wfmEgTick_counts hramp hlt]
      exact ⟨q, by bv_omega, by bv_omega, hlvl⟩
    · rw [wfmEgTick_moves hramp hge, hlvl, ← Function.iterate_succ_apply' (rampStep reg)]
      refine ⟨q + 1, ?_, Nat.zero_le _, rfl⟩
      change t + 1 = (q + 1) * ((volField reg).toNat + 1) + 0
      rw [Nat.succ_mul]
      omega

/-- The level after `t` clocks: one step of the ramp for every whole `r + 1` of them. -/
theorem wfmEgTicks_lvl {reg : Byte} (hramp : fixedMode reg = false) {e : WfmEnv} (hcnt : e.cnt = 0) (t : Nat) :
    (Nat.iterate (wfmEgTick reg) t e).lvl = Nat.iterate (rampStep reg) (t / (reg.toNat % 64 + 1)) e.lvl := by
  obtain ⟨q, ht, hle, hlvl⟩ := wfmEgTicks_ramp hramp hcnt t
  have hq : t / ((volField reg).toNat + 1) = q :=
    Nat.div_eq_of_lt_le (by omega) (by rw [Nat.succ_mul]; omega)
  rw [hlvl, ← volField_toNat, hq]

theorem rampSteps_up {reg : Byte} (hup : rampUp reg = true) {lvl : BitVec 6} (hle : lvl.toNat ≤ 31) (q : Nat) :
    (Nat.iterate (rampStep reg) q lvl).toNat = min 31 (lvl.toNat + q) := by
  induction q with
  | zero => exact (Nat.min_eq_right hle).symm
  | succ q ih =>
    rw [Function.iterate_succ_apply', rampStep_toNat, if_pos hup, ih]
    split <;> omega

theorem rampSteps_top {reg : Byte} (hup : rampUp reg = true) {lvl : BitVec 6} (hge : 31 ≤ lvl.toNat) (q : Nat) :
    Nat.iterate (rampStep reg) q lvl = lvl := by
  refine Function.iterate_fixed ?_ q
  rw [rampStep, if_pos hup, if_neg (Nat.not_lt.mpr hge)]

theorem rampSteps_down {reg : Byte} (hdown : rampUp reg = false) (lvl : BitVec 6) (q : Nat) :
    (Nat.iterate (rampStep reg) q lvl).toNat = lvl.toNat - q := by
  induction q with
  | zero => rfl
  | succ q ih =>
    rw [Function.iterate_succ_apply', rampStep_toNat, hdown, if_neg Bool.false_ne_true, ih, Nat.sub_sub]

/-- Settles O45: the level moves `t div (r + 1)` steps of its ramp. -/
theorem envelopeRampLaws : Obligations.EnvelopeRampLaws := by
  intro reg e t hramp hcnt
  rw [wfmEgTicks_lvl hramp hcnt]
  exact ⟨fun hup hle => rampSteps_up hup hle _, fun hup hge => rampSteps_top hup hge _,
    fun hdown => rampSteps_down hdown e.lvl _⟩

/-! ### The envelope clock over any ADVANCE (R171) -/

/-- `v` has the envelopes of `u` after `units` units of the envelope clock's divider, the remainder kept (R171). -/
def EgAdvanced (c : Cfg) (m : Memory) (units : Nat) (u v : Wfm) : Prop :=
  v.egAcc = (u.egAcc + units) % c.egPeriodFx ∧
  v.cEnv = Nat.iterate (wfmEgTick (m.byte aCVOL)) ((u.egAcc + units) / c.egPeriodFx) u.cEnv ∧
  v.mEnv = Nat.iterate (wfmEgTick (m.byte aMVOL)) ((u.egAcc + units) / c.egPeriodFx) u.mEnv

/-- One WFM step gives its envelopes `CPS << EG_FRAC_BITS` units (R170, R171). -/
theorem wfmStep_egAdvanced (c : Cfg) (m : Memory) (u : Wfm) :
    EgAdvanced c m (c.cps * 2 ^ c.egFracBits) u (wfmStep c m u).1 := by
  obtain ⟨hcEnv, hmEnv, hegAcc⟩ := wfmStep_envelopes c m u
  obtain ⟨hclkAcc, hclkC, hclkM, _⟩ := wfmEgClk_spec c m u
  rw [← Nat.shiftLeft_eq]
  exact ⟨hegAcc.trans hclkAcc, hcEnv.trans hclkC, hmEnv.trans hclkM⟩

theorem egAdvanced_zero {c : Cfg} (m : Memory) {u : Wfm} (hacc : u.egAcc < c.egPeriodFx) : EgAdvanced c m 0 u u := by
  simp [EgAdvanced, Nat.mod_eq_of_lt hacc, Nat.div_eq_of_lt hacc]

/-- The units may be given in two parts, as the divider allows it (`divider_add`). -/
theorem EgAdvanced.trans {c : Cfg} {m : Memory} {x y : Nat} {u v w : Wfm} (huv : EgAdvanced c m x u v)
    (hvw : EgAdvanced c m y v w) : EgAdvanced c m (x + y) u w := by
  obtain ⟨hvAcc, hvC, hvM⟩ := huv
  obtain ⟨hwAcc, hwC, hwM⟩ := hvw
  obtain ⟨hrest, hticks⟩ := divider_add (u.egAcc + x) y c.egPeriodFx_pos
  have hquotient : ((u.egAcc + x) % c.egPeriodFx + y) / c.egPeriodFx + (u.egAcc + x) / c.egPeriodFx =
      (u.egAcc + (x + y)) / c.egPeriodFx := by
    rw [Nat.add_comm, ← Nat.add_assoc]
    exact hticks
  refine ⟨?_, ?_, ?_⟩
  · rw [hwAcc, hvAcc, ← Nat.add_assoc]
    exact hrest
  · rw [hwC, hvC, hvAcc, ← Function.iterate_add_apply, hquotient]
  · rw [hwM, hvM, hvAcc, ← Function.iterate_add_apply, hquotient]

theorem wfmSteps_egAdvanced (c : Cfg) (m : Memory) {u : Wfm} (hacc : u.egAcc < c.egPeriodFx) (n : Nat) :
    EgAdvanced c m (n * (c.cps * 2 ^ c.egFracBits)) u (Nat.iterate (fun u => (wfmStep c m u).1) n u) := by
  induction n with
  | zero =>
    rw [Nat.zero_mul]
    exact egAdvanced_zero m hacc
  | succ n ih =>
    rw [Function.iterate_succ_apply', Nat.succ_mul]
    exact ih.trans (wfmStep_egAdvanced c m _)

/-- Settles O42: an ADVANCE is a run of WFM steps, whose units add up. -/
theorem envelopeClocksNeverDrift : Obligations.EnvelopeClocksNeverDrift := by
  intro s t count hlive hacc hadv
  obtain ⟨⟨hwfm, _⟩, _⟩ := adv_units hlive hadv
  rw [hwfm]
  exact wfmSteps_egAdvanced s.cfg s.raw hacc _

/-- A fixed carrier envelope is the same after any number of steps (R183 (a)). -/
theorem wfmSteps_carrierFixed {c : Cfg} {m : Memory} (hfixed : fixedMode (m.byte aCVOL) = true) (n : Nat) (u : Wfm) :
    (Nat.iterate (fun u => (wfmStep c m u).1) n u).cEnv = u.cEnv := by
  refine iterate_same Wfm.cEnv _ (fun v => ?_) n u
  obtain ⟨_, hcEnv, _⟩ := wfmStep_egAdvanced c m v
  rw [hcEnv]
  exact Function.iterate_fixed (wfmEgTick_fixed hfixed _) _

/-- A fixed modulator envelope is the same after any number of steps (R183 (a)). -/
theorem wfmSteps_modulatorFixed {c : Cfg} {m : Memory} (hfixed : fixedMode (m.byte aMVOL) = true) (n : Nat) (u : Wfm) :
    (Nat.iterate (fun u => (wfmStep c m u).1) n u).mEnv = u.mEnv := by
  refine iterate_same Wfm.mEnv _ (fun v => ?_) n u
  obtain ⟨_, _, hmEnv⟩ := wfmStep_egAdvanced c m v
  rw [hmEnv]
  exact Function.iterate_fixed (wfmEgTick_fixed hfixed _) _

/-- Settles O44: a clock leaves a fixed envelope alone, and with it a step and an ADVANCE. -/
theorem fixedVolumeNeverMoves : Obligations.FixedVolumeNeverMoves := by
  intro s t count hlive hadv
  obtain ⟨⟨hwfm, _⟩, _⟩ := adv_units hlive hadv
  rw [hwfm]
  exact ⟨fun hfixed => wfmSteps_carrierFixed hfixed _ _, fun hfixed => wfmSteps_modulatorFixed hfixed _ _⟩

end Sys2Proof.Proofs
end

section
/-! PROOFS. Scope: the WFM step apart from its envelopes (spec/45_wfm_step.md R170, R173 to R181): the bias and the
modulator, the modulation value and its ranges, the carrier, the sample, and an unmodulated carrier over any ADVANCE
(R182). -/

namespace Sys2Proof.Proofs

open Sys2Proof Sys2Proof.Machine

/-! ### The bias (R174, R175) -/

theorem biasDown_emod (fuel : Nat) (b : Int) : biasDown fuel b % 128 = b % 128 := by
  induction fuel generalizing b with
  | zero => rfl
  | succ n ih =>
    unfold biasDown
    split
    · rw [ih]
      omega
    · rfl

theorem biasUp_emod (fuel : Nat) (b : Int) : biasUp fuel b % 128 = b % 128 := by
  induction fuel generalizing b with
  | zero => rfl
  | succ n ih =>
    unfold biasUp
    split
    · rw [ih]
      omega
    · rfl

theorem biasWrap_emod (b : Int) : biasWrap b % 128 = b % 128 :=
  (biasUp_emod _ _).trans (biasDown_emod _ _)

/-- The wrap is the one number of `-64 .. 63` that is congruent to its argument modulo 128 (R175). -/
theorem biasWrap_eq (b : Int) : biasWrap b = (b + 64) % 128 - 64 := by
  have hrange := biasWrap_range b
  have hmod := biasWrap_emod b
  omega

/-- Settles O35: each round of either loop keeps the residue modulo 128, and the range holds one number of each. -/
theorem biasWrapReachesRange : Obligations.BiasWrapReachesRange := by
  intro b
  rw [biasWrap_eq]
  omega

theorem biasUpd_reset (b : Int) : biasUpd 4 b = 0 := by
  rw [biasUpd, if_pos (show (4 : BitVec 3) = 4#3 from rfl), biasWrap_eq]
  rfl

/-- A selector other than 4 adds its entry of `BIAS_TBL`, and the sum wraps. -/
theorem biasUpd_add {v : BitVec 3} (h : v ≠ 4#3) {d : Int} (hd : biasTbl v = d) (b : Int) :
    biasUpd v b = (b + d + 64) % 128 - 64 := by
  rw [biasUpd, if_neg h, biasWrap_eq, hd]

/-- Settles O36: the wrapped sum of each selector, which from a bias in range leaves the range by less than 128. -/
theorem biasUpdateFollowsTable : Obligations.BiasUpdateFollowsTable := by
  intro b hge hle
  rw [biasUpd_add (v := 0) (d := 0) (by decide) rfl, biasUpd_add (v := 1) (d := 1) (by decide) rfl,
    biasUpd_add (v := 2) (d := 2) (by decide) rfl, biasUpd_add (v := 3) (d := 4) (by decide) rfl, biasUpd_reset,
    biasUpd_add (v := 5) (d := -4) (by decide) rfl, biasUpd_add (v := 6) (d := -2) (by decide) rfl,
    biasUpd_add (v := 7) (d := -1) (by decide) rfl]
  refine ⟨?_, ?_, ?_, ?_, rfl, ?_, ?_, ?_⟩
  · omega
  all_goals
    split <;> omega

/-! ### The modulator (R173) -/

/-- The entries entered, as a fold over their places after the start, which wrap from 63 to 0. -/
theorem biasEntries_eq_foldl (m : Memory) (start n : Nat) (b : Int) :
    biasEntries m start n b =
      (List.range n).foldl (fun b j => biasUpd (msel m (BitVec.ofNat 6 ((start + (j + 1)) % 64))) b) b := by
  induction n with
  | zero => rfl
  | succ n ih =>
    have hwrap : BitVec.ofNat 6 (start + (n + 1)) = BitVec.ofNat 6 ((start + (n + 1)) % 64) :=
      BitVec.eq_of_toNat_eq (Nat.mod_mod _ 64).symm
    rw [List.range_succ, List.foldl_append, ← ih, biasEntries, hwrap]
    rfl

/-- Settles O37: the number of boundaries crossed is the difference of the table positions, and a shift by 16 divides
by 65536. -/
theorem modulatorAdvanceAppliesEntriesInOrder : Obligations.ModulatorAdvanceAppliesEntriesInOrder := by
  intro c m u
  refine ⟨wfmModAdv_off, fun hmen => ⟨_, rfl, ?_⟩⟩
  rw [wfmModAdv_on hmen, biasEntries_eq_foldl, Nat.shiftRight_eq_div_pow, Nat.shiftRight_eq_div_pow]
  rfl

/-! ### The modulation value (R176 to R178) -/

/-- The rounding of R176 with its shift as one by a natural number. -/
theorem modRound_shift (bias : Int) (lvl : BitVec 6) :
    modRound bias lvl =
      if bias * lvl.toNat % 16 ≠ 0 then
        (if bias < 0 then (bias * lvl.toNat) >>> (4 : Nat) - 1 else (bias * lvl.toNat) >>> (4 : Nat) + 2)
      else (bias * lvl.toNat) >>> (4 : Nat) := by
  unfold modRound
  cases bias * (lvl.toNat : Int) with
  | ofNat _ => rfl
  | negSucc _ => rfl

/-- The scaling of R178 with its shift as one by a natural number. -/
theorem modValue_shift (bias : Int) (lvl : BitVec 6) (f : BitVec 12) :
    modValue bias lvl f = (modWrap (modRound bias lvl) * f.toNat) >>> (6 : Nat) := by
  unfold modValue
  cases modWrap (modRound bias lvl) * (f.toNat : Int) with
  | ofNat _ => rfl
  | negSucc _ => rfl

/-- The rounded product, by floor division. -/
theorem modRound_eq (bias : Int) (lvl : BitVec 6) :
    modRound bias lvl = bias * lvl.toNat / 16 +
      (if (16 : Int) ∣ bias * lvl.toNat then 0 else if bias < 0 then -1 else 2) := by
  rw [modRound_shift, Int.shiftRight_eq_div_pow]
  change _ = bias * lvl.toNat / ((2 ^ 4 : Nat) : Int) + _
  by_cases hdvd : (16 : Int) ∣ bias * lvl.toNat
  · rw [if_pos hdvd, if_neg (not_not.mpr (Int.emod_eq_zero_of_dvd hdvd)), Int.add_zero]
  · rw [if_neg hdvd, if_pos fun hzero => hdvd (Int.dvd_of_emod_eq_zero hzero)]
    split <;> rfl

/-- The scaled value, by floor division. -/
theorem modValue_eq (bias : Int) (lvl : BitVec 6) (f : BitVec 12) :
    modValue bias lvl f = modWrap (modRound bias lvl) * f.toNat / 64 :=
  (modValue_shift bias lvl f).trans (Int.shiftRight_eq_div_pow _ 6)

/-- Settles O38: with a positive divisor floor division is Euclidean division. -/
theorem modulationValueFormula : Obligations.ModulationValueFormula := by
  intro bias lvl f
  refine ⟨_, _, rfl, rfl, ?_⟩
  rw [modValue_eq, modRound_eq, Int.fdiv_eq_ediv_of_nonneg _ (by decide), Int.fdiv_eq_ediv_of_nonneg _ (by decide)]
  rfl

/-- The rounded product of a bias in range. At bias -64 every product is divisible by 16, so the correction by -1 never
meets the lowest floor. -/
theorem modRound_range {bias : Int} (hge : -64 ≤ bias) (hle : bias ≤ 63) (lvl : BitVec 6) :
    -252 ≤ modRound bias lvl ∧ modRound bias lvl ≤ 250 := by
  have hlvl := lvl.isLt
  rw [modRound_eq]
  rcases eq_or_lt_of_le hge with rfl | hgt
  · rw [if_pos (by omega)]
    omega
  · have hlow : -63 * (lvl.toNat : Int) ≤ bias * lvl.toNat := Int.mul_le_mul_of_nonneg_right (by omega) (by omega)
    have hhigh : bias * (lvl.toNat : Int) ≤ 63 * lvl.toNat := Int.mul_le_mul_of_nonneg_right hle (by omega)
    split
    · omega
    · split <;> omega

/-- One correction suffices for the range of the rounded product (R177). -/
theorem modWrap_range {q : Int} (hge : -252 ≤ q) (hle : q ≤ 250) : -64 ≤ modWrap q ∧ modWrap q ≤ 193 := by
  unfold modWrap
  split
  · omega
  · split <;> omega

/-- Settles O39: the range of each part bounds the next, and `-64 x f / 64` is what makes the combined frequency 0 at
the least. -/
theorem modulationStaysInRange : Obligations.ModulationStaysInRange := by
  intro bias lvl f hge hle
  obtain ⟨hroundGe, hroundLe⟩ := modRound_range hge hle lvl
  obtain ⟨hwrapGe, hwrapLe⟩ := modWrap_range hroundGe hroundLe
  refine ⟨hroundGe, hroundLe, hwrapGe, hwrapLe, ?_⟩
  rw [modValue_eq]
  generalize modWrap (modRound bias lvl) = w at hwrapGe hwrapLe
  have hf := f.isLt
  have hlow : -64 * (f.toNat : Int) ≤ w * f.toNat := Int.mul_le_mul_of_nonneg_right hwrapGe (by omega)
  have hhigh : w * (f.toNat : Int) ≤ 193 * f.toNat := Int.mul_le_mul_of_nonneg_right hwrapLe (by omega)
  omega

/-- Without bias there is no modulation. -/
theorem modValue_zero (lvl : BitVec 6) (f : BitVec 12) : modValue 0 lvl f = 0 := by
  have hround : modRound 0 lvl = 0 := by simp [modRound_eq]
  have hwrap : modWrap 0 = 0 := rfl
  rw [modValue_eq, hround, hwrap, Int.zero_mul]
  rfl

/-! ### The carrier (R179) -/

theorem effFreq_of_neg {f : BitVec 12} {mod : Int} (h : (f.toNat : Int) + mod < 0) : effFreq f mod = 0 := by
  rw [effFreq]
  omega

theorem effFreq_of_nonneg {f : BitVec 12} {mod : Int} (h : 0 ≤ (f.toNat : Int) + mod) :
    (effFreq f mod : Int) = f.toNat + mod := by
  rw [effFreq]
  omega

/-- Settles O40: the phase moves by the effective frequency, in either case of its floor. -/
theorem carrierAdvancesByEffectiveFrequency : Obligations.CarrierAdvancesByEffectiveFrequency := by
  intro c m mod u
  refine ⟨wfmCarAdv_off, fun hcen => ⟨_, wfmCarAdv_on hcen, fun hneg => ?_, fun hnonneg => ?_⟩⟩
  · rw [effFreq_of_neg hneg, Nat.zero_mul, Nat.add_zero, BitVec.ofNat_toNat, BitVec.setWidth_eq]
  · rw [BitVec.toNat_ofNat, ← effFreq_of_nonneg hnonneg]
    push_cast
    rfl

/-! ### The step (R170) -/

/-- The unit after a step. The modulator's advance leaves the envelopes alone, so the level the modulation value takes
is that of the envelope clocks. -/
theorem wfmStep_unit (c : Cfg) (m : Memory) (u : Wfm) :
    (wfmStep c m u).1 =
      wfmCarAdv c m (modValue (wfmModAdv c m (wfmEgClk c m u)).bias (wfmEgClk c m u).mEnv.lvl (cfreq m))
        (wfmModAdv c m (wfmEgClk c m u)) := by
  obtain ⟨_, _, hmEnv, _⟩ := wfmModAdv_frame c m (wfmEgClk c m u)
  rw [← hmEnv]
  rfl

/-- Settles O41: the step's parts by name, and what each of them leaves alone. -/
theorem wfmStepOrder : Obligations.WfmStepOrder := by
  intro c m u
  obtain ⟨hcEnv, hmEnv, hegAcc⟩ := wfmStep_envelopes c m u
  obtain ⟨hmPhase, hbias⟩ := wfmStep_modulator c m u
  have hstep : wfmStep c m u = ((wfmStep c m u).1, wfmOut c m (wfmStep c m u).1) :=
    Prod.ext rfl (wfmStep_sample c m u)
  exact ⟨_, _, _, rfl, rfl, wfmStep_unit c m u, hstep, hcEnv, hmEnv, hegAcc, hbias, hmPhase⟩

/-! ### The sample (R180, R181) -/

/-- The table index of a phase, in numbers (R26). -/
theorem phaseIndex_eq (p : Phase) : phaseIndex p = BitVec.ofNat 6 (p.toNat / 65536) := by
  rw [← Nat.shiftRight_eq_div_pow p.toNat 16]
  rfl

theorem outLevel_toNat (c : Cfg) (lvl : BitVec 6) : (outLevel c lvl).toNat = min lvl.toNat c.volCeil.toNat := by
  unfold outLevel
  split <;> omega

/-- The value of a sample with the arguments of the scaler in numbers. -/
theorem outValue_eq (c : Cfg) (m : Memory) (w lvl : BitVec 6) :
    outValue c m w lvl =
      min 32767 (logMul (BitVec.ofNat 7 w.toNat) (BitVec.ofNat 7 (min lvl.toNat c.volCeil.toNat)) (mgain c (master m))
        c.outShift) := by
  rw [outValue, ← BitVec.ofNat_toNat, ← BitVec.ofNat_toNat, outLevel_toNat]

/-- A saturated value fits a signed sample. -/
theorem wfmOut_toInt (c : Cfg) (m : Memory) (u : Wfm) :
    (wfmOut c m u).toInt = outValue c m (cwave m (phaseIndex u.cPhase)) u.cEnv.lvl := by
  have hle : outValue c m (cwave m (phaseIndex u.cPhase)) u.cEnv.lvl ≤ 32767 := Nat.min_le_left _ _
  rw [wfmOut]
  generalize outValue c m (cwave m (phaseIndex u.cPhase)) u.cEnv.lvl = x at hle ⊢
  have hnat : (BitVec.ofNat 16 x).toNat = x := Nat.mod_eq_of_lt (by omega)
  rw [BitVec.toInt_eq_toNat_of_lt (by omega), hnat]

/-- Settles O46: the sample is the saturated value, which is a natural number. -/
theorem wfmSampleIsSaturatedProduct : Obligations.WfmSampleIsSaturatedProduct := by
  intro c m u
  rw [wfmOut_toInt, outValue_eq, phaseIndex_eq]
  exact ⟨rfl, Int.natCast_nonneg _⟩

/-! ### An unmodulated carrier (R182 (d), (f)) -/

/-- The carrier is enabled, the modulator off and the bias 0. -/
def Unmodulated (m : Memory) (u : Wfm) : Prop := cen m = true ∧ men m = false ∧ u.bias = 0

theorem wfmStep_cPhase_unmodulated {m : Memory} {u : Wfm} (h : Unmodulated m u) (c : Cfg) :
    (wfmStep c m u).1.cPhase = BitVec.ofNat 22 (u.cPhase.toNat + (cfreq m).toNat * c.cps) := by
  obtain ⟨hcen, hmen, hbias⟩ := h
  obtain ⟨_, _, _, hphase, _, hclkBias⟩ := wfmEgClk_spec c m u
  have heff : effFreq (cfreq m) 0 = (cfreq m).toNat := by rw [effFreq, Int.add_zero]; omega
  rw [wfmStep_unit, wfmCarAdv_on hcen, wfmModAdv_off hmen, hclkBias, hbias, modValue_zero, heff, hphase]

theorem wfmStep_unmodulated {m : Memory} {u : Wfm} (h : Unmodulated m u) (c : Cfg) :
    Unmodulated m (wfmStep c m u).1 := by
  obtain ⟨hcen, hmen, hbias⟩ := h
  exact ⟨hcen, hmen, (wfmStep_modulator_off hmen).2.trans hbias⟩

/-- The phase after `n` steps: the same move each time, modulo `2^22`. -/
theorem wfmSteps_cPhase_unmodulated {m : Memory} {u : Wfm} (h : Unmodulated m u) (c : Cfg) (n : Nat) :
    (Nat.iterate (fun u => (wfmStep c m u).1) n u).cPhase =
      BitVec.ofNat 22 (u.cPhase.toNat + n * (cfreq m).toNat * c.cps) := by
  induction n with
  | zero => simp
  | succ n ih =>
    have hn : Unmodulated m (Nat.iterate (fun u => (wfmStep c m u).1) n u) :=
      iterate_keeps (Unmodulated m) _ (fun _ hu => wfmStep_unmodulated hu c) n u h
    rw [Function.iterate_succ_apply', wfmStep_cPhase_unmodulated hn, ih]
    apply BitVec.eq_of_toNat_eq
    rw [BitVec.toNat_ofNat, BitVec.toNat_ofNat, BitVec.toNat_ofNat, Nat.mod_add_mod, Nat.succ_mul, Nat.add_mul,
      Nat.add_assoc]

/-- The `k`-th sample of a unit is the one of its step from the state after `k` steps. -/
theorem unitSamples_eq_map {α : Type} (unitStep : α → α × Sample) (n : Nat) (u : α) :
    unitSamples unitStep n u =
      (List.range n).map fun k => (unitStep (Nat.iterate (fun u => (unitStep u).1) k u)).2 := by
  induction n generalizing u with
  | zero => rfl
  | succ n ih =>
    rw [unitSamples, ih, List.range_succ_eq_map, List.map_cons, List.map_map]
    rfl

/-- The table index of a phase known modulo `2^22`. -/
theorem phaseIndex_ofNat (x : Nat) : phaseIndex (BitVec.ofNat 22 x) = BitVec.ofNat 6 (x / 65536 % 64) := by
  have hmod : (BitVec.ofNat 22 x).toNat / 65536 = x / 65536 % 64 := by
    rw [BitVec.toNat_ofNat]
    omega
  rw [phaseIndex_eq, hmod]

/-- The `k`-th sample: the table entry at the phase after `k + 1` moves, at the fixed level. -/
theorem wfmSample_unmodulated {m : Memory} {u : Wfm} (h : Unmodulated m u)
    (hfixed : fixedMode (m.byte aCVOL) = true) (c : Cfg) (k : Nat) :
    (wfmStep c m (Nat.iterate (fun u => (wfmStep c m u).1) k u)).2 =
      BitVec.ofNat 16 (min 32767 (logMul
        (BitVec.ofNat 7 (cwave m
          (BitVec.ofNat 6 ((u.cPhase.toNat + (k + 1) * (cfreq m).toNat * c.cps) / 65536 % 64))).toNat)
        (BitVec.ofNat 7 (min u.cEnv.lvl.toNat c.volCeil.toNat)) (mgain c (master m)) c.outShift)) := by
  rw [wfmStep_sample, ← Function.iterate_succ_apply' (fun u => (wfmStep c m u).1), wfmOut,
    wfmSteps_cPhase_unmodulated h, wfmSteps_carrierFixed hfixed, phaseIndex_ofNat, outValue_eq]

/-- Settles O47: an ADVANCE appends the samples of the WFM unit's own steps, and these are known one by one. -/
theorem unmodulatedCarrierPlaysItsTable : Obligations.UnmodulatedCarrierPlaysItsTable := by
  intro s t count hlive hcen hmen hbias hfixed hadv
  have h : Unmodulated s.raw s.wfm := ⟨hcen, hmen, hbias⟩
  refine ⟨?phase, ?samples⟩
  case phase =>
    obtain ⟨⟨hwfm, _⟩, _⟩ := adv_units hlive hadv
    rw [hwfm, wfmSteps_cPhase_unmodulated h]
    rfl
  case samples =>
    obtain ⟨rfl, _⟩ := adv_inversion hlive hadv
    obtain ⟨new, hnew, _, hwfmNew⟩ := audioSteps_samples (s.stepsIn count) s
    simp only [hnew, List.map_append, hwfmNew, unitSamples_eq_map, wfmSample_unmodulated h hfixed]

end Sys2Proof.Proofs
end

section
/-! PROOFS. Scope: what the host port refuses, and that no command and no step faults (spec/60_exceptions.md R200,
R206). -/

namespace Sys2Proof.Proofs

open Sys2Proof Sys2Proof.Machine

/-! ### Refused commands (R206) -/

/-- RESET is the one command accepted before the first RESET: every other one is guarded by `whenLive` (R206 (b)). -/
theorem exec_eq_whenLive_of_ne_rst {i : Instr} (hi : i ≠ .rst) : ∃ f, ∀ s, exec i s = whenLive s f := by
  cases i with
  | rst => exact absurd rfl hi
  | _ => exact ⟨_, fun _ => rfl⟩

/-- A step whose next command word is illegal takes the word and refuses it (R206 (a)). -/
theorem step_of_nextCommand_of_illegal {s s' : State} {w : Hcw} {e : Illegal}
    (hnext : s.nextCommand = some (w, s')) (hdecode : decode w = .error e) :
    step s = .next (s'.refuse (.illegal e)) := by
  unfold step
  simp only [hnext, hdecode]

/-- Settles O7: an illegal word is refused after it is taken; a command other than RESET is guarded by `whenLive`. -/
theorem refusedCommandsChangeNothing : Obligations.RefusedCommandsChangeNothing := by
  refine ⟨fun s w rest e hpending hdecode => ?illegal, fun i s hdead hi => ?beforeReset⟩
  case illegal => exact step_of_nextCommand_of_illegal (State.nextCommand_cons hpending) hdecode
  case beforeReset =>
    obtain ⟨f, hexec⟩ := exec_eq_whenLive_of_ne_rst hi
    exact (hexec s).trans (whenLive_dead hdead f)

/-! ### No command and no step faults (R200) -/

theorem whenLive_next (s : State) (f : State → State) : ∃ t, whenLive s f = .next t := by
  cases hlive : s.live with
  | true => exact ⟨_, whenLive_live hlive f⟩
  | false => exact ⟨_, whenLive_dead hlive f⟩

theorem exec_next (i : Instr) (s : State) : ∃ t, exec i s = .next t := by
  by_cases hi : i = .rst
  · subst hi
    exact ⟨_, rfl⟩
  · obtain ⟨f, hexec⟩ := exec_eq_whenLive_of_ne_rst hi
    rw [hexec s]
    exact whenLive_next s f

theorem step_next (s : State) : ∃ t, step s = .next t := by
  cases hpending : s.pending with
  | nil => exact ⟨s, quiescentWithoutCommand s hpending⟩
  | cons w rest =>
    have hnext := State.nextCommand_cons hpending
    cases hdecode : decode w with
    | error e => exact ⟨_, step_of_nextCommand_of_illegal hnext hdecode⟩
    | ok i =>
      rw [step_of_nextCommand_of_decode hnext hdecode]
      exact exec_next i _

/-- Settles O8: a command is RESET or guarded by `whenLive`; a step idles, refuses its word or performs its command. -/
theorem nothingEverFaults : Obligations.NothingEverFaults :=
  ⟨exec_next, step_next⟩

end Sys2Proof.Proofs
end

section
/-! PROOFS. Scope: the first RESET after power-on (spec/70_reset_and_hazards.md R220, R221). -/

namespace Sys2Proof.Proofs

open Sys2Proof Sys2Proof.Machine

/-- In any state, RESET keeps of what came before the configuration, the two streams and what belongs to the host
port; everything else is the configuration's reset state (R221). -/
theorem exec_rst_eq_resetWith (s : State) :
    exec .rst s = .next { State.resetWith s.cfg with
      samples := s.samples, reads := s.reads, pending := s.pending, report := s.report } := rfl

/-- Settles O29: of the block's own state RESET keeps only the two streams, and these are empty at power-on. -/
theorem firstResetForgetsPowerOnValues : Obligations.FirstResetForgetsPowerOnValues := by
  intro s hpowerOn
  obtain ⟨_, hsamples, hreads⟩ := hpowerOn
  rw [exec_rst_eq_resetWith, hsamples, hreads]
  rfl

end Sys2Proof.Proofs
end
